-- ==== Sys2Proof/Word.lean ====
section
/-! DEFINITION. The word of the block: every register, bus datum and stream datum is 32 bits wide
(spec/00_scope.md R7, spec/10_state.md R20); the byte is the cell in which a buffer is stored. -/

namespace Sys2Proof

/-- A 32-bit word (R9: bit 0 is the least significant bit). -/
abbrev Word := BitVec 32

/-- One byte of a stored buffer word. -/
abbrev Byte := BitVec 8

end Sys2Proof
end

