-- ==== Sys2Proof/Machine/Convert.lean ====
section
/-! DEFINITION. The Sample Converter (spec/40_converter.md): toFloat and toFixed, bit for bit, in exact integer arithmetic,
over the binary32 notation of spec/00_scope.md R10. -/

namespace Sys2Proof.Machine

/-- exp = b[30:23] (R10). -/
def floatExp (b : Word) : Nat := (b.extractLsb' 23 8).toNat

/-- frac = b[22:0] (R10). -/
def floatFrac (b : Word) : Nat := (b.extractLsb' 0 23).toNat

/-- isNaN: exp = 0xFF and frac ≠ 0 (R10). -/
def isNaN (b : Word) : Bool := floatExp b = 0xFF && floatFrac b ≠ 0

/-- isInf: exp = 0xFF and frac = 0 (R10). -/
def isInf (b : Word) : Bool := floatExp b = 0xFF && floatFrac b = 0

/-- |val(b)| in units of 2^-149: (2^23 + frac) x 2^(exp-1) when exp ≠ 0, frac when exp = 0. Every finite binary32 value
is an integer in this unit (R10). -/
def floatMag (b : Word) : Nat :=
  if floatExp b = 0 then floatFrac b else (2 ^ 23 + floatFrac b) * 2 ^ (floatExp b - 1)

/-- val(b) in units of 2^-149, for b neither NaN nor infinite (R10). -/
def floatVal (b : Word) : Int := if b.getLsbD 31 then -(floatMag b : Int) else (floatMag b : Int)

/-- `m / 2^k` rounded to an integer, to nearest, ties to even. -/
def roundEven (m k : Nat) : Nat :=
  let q := m / 2 ^ k
  let r := m % 2 ^ k
  if 2 * r > 2 ^ k || (2 * r = 2 ^ k && q % 2 = 1) then q + 1 else q

/-- rne32 of the magnitude m / 2^k: the nearest binary32 pattern without its sign, ties to the even fraction (R10).
With e = floor(log2(m / 2^k)), no lower than the least normal exponent -126, the fraction's unit is 2^(e-23); a fraction
that rounds up to the next power of two carries into the exponent field. Beyond the largest finite value: infinity (log 12). -/
def rne32Mag (m k : Nat) : Nat :=
  if m = 0 then 0
  else
    let e : Int := max ((Nat.log2 m : Int) - (k : Int)) (-126)
    let shift : Int := (k : Int) + (e - 23)
    let t := if shift ≤ 0 then m * 2 ^ (-shift).toNat else roundEven m shift.toNat
    min ((e + 126).toNat * 2 ^ 23 + t) 0x7F800000

/-- rne32 of the rational v / 2^k (R10); 0 gives +0 (R131, log 12). -/
def rne32 (v : Int) (k : Nat) : Word :=
  BitVec.ofNat 32 ((if v < 0 then 2 ^ 31 else 0) + rne32Mag v.natAbs k)

/-- toFloat: fixed-point word to float (R130). The rounded integer is val(b) = floatVal b / 2^149, so r = val(b) x 2^-31
is floatVal b / 2^180, and r ≥ 1 is floatVal b ≥ 2^180. -/
def toFloat (w : Word) : Word :=
  let b := rne32 w.toInt 0
  if floatVal b ≥ 2 ^ 180 then 0x3F7FFFFF#32 else rne32 (floatVal b) 180

/-- word32(n x 2^8) (R9, R135). -/
def fixedWord (n : Int) : Word := BitVec.ofInt 32 (n * 2 ^ 8)

/-- toFixed: float to fixed-point word, with saturation (R135). With s = val(b) x 2^23 = floatVal b / 2^126,
floor(s + 1/2) is the floor quotient below. -/
def toFixed (b : Word) : Word :=
  if isNaN b then 0x00000000#32
  else if isInf b then
    fixedWord (if b.getLsbD 31 then -2 ^ 23 else 2 ^ 23 - 1)
  else
    fixedWord (min (max ((floatVal b + 2 ^ 125) / 2 ^ 126) (-2 ^ 23)) (2 ^ 23 - 1))

end Sys2Proof.Machine
end

