-- ==== Sys2Proof/Config.lean ====
section
/-! DEFINITION. What an implementation fixes (the parameters of spec/00_scope.md R6) and the free
values: constants with no body, so that nothing can be proved of the value they take. -/

namespace Sys2Proof

/-- The parameters of R6. They are constant during a run; State holds them (log 1). -/
structure Params where
  /-- BLOCK_BASE: host byte address of register offset 0. -/
  blockBase : Nat
  /-- NUM_BUS: number of serial-audio bus instances of the platform. -/
  numBus : Nat
  /-- MAX_SAMPLES: capacity of each buffer in 32-bit words. -/
  maxSamples : Nat
  /-- TIMEOUT_CYCLES: bound on a transfer and on one CONFIG handshake. -/
  timeout : Nat
  /-- SETTLE_CYCLES: length of the SETTLE stage. -/
  settle : Nat
  /-- MCLK_MULT: master-clock multiple of the sample rate. -/
  mclkMult : Nat
  /-- F_CLK: informational, no rule depends on it. -/
  fClk : Nat
  deriving DecidableEq, Repr

/-- The legal values of the parameters, the table of R6. -/
abbrev Params.legal (p : Params) : Prop :=
  p.blockBase % 2 ^ 20 = 0 ∧
  (1 ≤ p.numBus ∧ p.numBus ≤ 256) ∧
  (512 ≤ p.maxSamples ∧ p.maxSamples ≤ 16384) ∧
  (1 ≤ p.timeout ∧ p.timeout ≤ 2 ^ 32 - 1) ∧
  p.settle ≤ 2 ^ 32 - 1 ∧
  (1 ≤ p.mclkMult ∧ p.mclkMult ≤ 2 ^ 32 - 1) ∧
  0 < p.fClk

namespace Config

/-! The OPEN parameters of R6, each drawn so that every legal value, and no other, is possible (log 1). -/

/-- BLOCK_BASE is this many times 2^20. -/
opaque blockBaseMiB : Nat
/-- NUM_BUS - 1, the byte that PARAMS shows. -/
opaque numBusLess1 : BitVec 8
/-- MAX_SAMPLES - 512, reduced below to its legal range. -/
opaque maxSamplesAbove512 : Nat
/-- TIMEOUT_CYCLES - 1, reduced below to its legal range. -/
opaque timeoutLess1 : Nat
/-- SETTLE_CYCLES. -/
opaque settleCycles : BitVec 32
/-- F_CLK - 1. -/
opaque fClkLess1 : Nat

/-- MCLK_MULT: "384 unless the target chip needs another" (R6). -/
def mclkMult : Nat := 384

/-- The parameters a machine comes out of reset with. -/
def params : Params where
  blockBase := blockBaseMiB * 2 ^ 20
  numBus := numBusLess1.toNat + 1
  maxSamples := 512 + maxSamplesAbove512 % 15873
  timeout := 1 + timeoutLess1 % (2 ^ 32 - 1)
  settle := settleCycles.toNat
  mclkMult := mclkMult
  fClk := fClkLess1 + 1

/-! What the external agents drive in a cycle for which `State.agents` holds no entry: draws under no law
(spec/70_reset_and_hazards.md R296, spec/93_implementation_defined.md I3), one for each cycle (log 2). -/

/-- rx_valid of a cycle. -/
opaque freeRxValid : Nat → Bool
/-- rx_data of a cycle. -/
opaque freeRxData : Nat → Word
/-- rx_err of a cycle. -/
opaque freeRxErr : Nat → Bool
/-- tx_ready of a cycle. -/
opaque freeTxReady : Nat → Bool
/-- tx_err of a cycle. -/
opaque freeTxErr : Nat → Bool
/-- per_ack of a cycle. -/
opaque freePerAck : Nat → Bool
/-- per_status of a cycle. -/
opaque freePerStatus : Nat → Word

/-- bus_rdata in a cycle with a host WRITE: R70 gives it a value in read and idle cycles only (log 6). -/
opaque freeBusRdata : Nat → Word

end Config

end Sys2Proof
end

