-- ==== Sys2Proof/Syntax.lean ====
section
/-! DEFINITION. The instructions of the block: one constructor for each row of spec/opcode_table.json.
The block executes no program (spec/00_scope.md R3): its instruction set is the commands written to CMD
(spec/30_encoding.md R105) and the host accesses (R108). -/

namespace Sys2Proof

/-- One constructor per row of the opcode table, in the table's order. `v` and `w` are bus_wdata, `i` is the
window index bus_addr[15:2], `powerOn` is ARG (R107). -/
inductive Instr where
  -- the commands of R105, as words of CMD
  | nop
  | config
  | enable (powerOn : Bool)
  | readBlock
  | writeBlock
  -- register reads
  | rdCmd
  | rdStatus
  | rdErr
  | rdIrqPend
  | rdIrqEn
  | rdCfgRate
  | rdCfgChan
  | rdCfgBlock
  | rdCfgBus
  | rdCfgMode
  | rdMclkHz
  | rdNSamples
  | rdCfgErr
  | rdCfgSum
  | rdParams
  | rdParamTimeout
  | rdParamSettle
  | rdRdStat
  | rdRptr
  | rdWrStat
  | rdWptr
  | rdParamMclkMult
  | rdCvtFixIn
  | rdCvtFltOut
  | rdCvtFltIn
  | rdCvtFixOut
  -- register writes
  | wrCmd (w : Word)
  | wrStatus (v : Word)
  | wrErr (v : Word)
  | wrIrqPend (v : Word)
  | wrIrqEn (v : Word)
  | wrCfgRate (v : Word)
  | wrCfgChan (v : Word)
  | wrCfgBlock (v : Word)
  | wrCfgBus (v : Word)
  | wrCfgMode (v : Word)
  | wrMclkHz (v : Word)
  | wrNSamples (v : Word)
  | wrCfgErr (v : Word)
  | wrCfgSum (v : Word)
  | wrParams (v : Word)
  | wrParamTimeout (v : Word)
  | wrParamSettle (v : Word)
  | wrRdStat (v : Word)
  | wrRptr (v : Word)
  | wrWrStat (v : Word)
  | wrWptr (v : Word)
  | wrParamMclkMult (v : Word)
  | wrCvtFixIn (v : Word)
  | wrCvtFltOut (v : Word)
  | wrCvtFltIn (v : Word)
  | wrCvtFixOut (v : Word)
  -- window accesses
  | rdRbuf (i : Nat)
  | rdRbufF (i : Nat)
  | rdWbuf (i : Nat)
  | rdWbufF (i : Nat)
  | wrRbuf (i : Nat) (v : Word)
  | wrRbufF (i : Nat) (v : Word)
  | wrWbuf (i : Nat) (v : Word)
  | wrWbufF (i : Nat) (v : Word)
  deriving DecidableEq, Repr

end Sys2Proof
end

