-- ==== Sys2Proof/WellFormed.lean ====
section
/-! DEFINITION. The check on an instruction's operands. The only operand that a term can hold out of range is
the window index: an aligned access reaches the indexes 0 .. 2^14 - 1 (spec/10_state.md R44). -/

namespace Sys2Proof

/-- Number of words in one buffer window (R44). -/
def windowWords : Nat := 2 ^ 14

/-- The operands are ones that some access encodes. -/
def Instr.WellFormed (i : Instr) : Bool :=
  match i with
  | .rdRbuf i => i < windowWords
  | .rdRbufF i => i < windowWords
  | .rdWbuf i => i < windowWords
  | .rdWbufF i => i < windowWords
  | .wrRbuf i _ => i < windowWords
  | .wrRbufF i _ => i < windowWords
  | .wrWbuf i _ => i < windowWords
  | .wrWbufF i _ => i < windowWords
  | .nop | .config | .enable _ | .readBlock | .writeBlock => true
  | .rdCmd | .rdStatus | .rdErr | .rdIrqPend | .rdIrqEn | .rdCfgRate | .rdCfgChan => true
  | .rdCfgBlock | .rdCfgBus | .rdCfgMode | .rdMclkHz | .rdNSamples | .rdCfgErr | .rdCfgSum => true
  | .rdParams | .rdParamTimeout | .rdParamSettle | .rdRdStat | .rdRptr | .rdWrStat | .rdWptr => true
  | .rdParamMclkMult | .rdCvtFixIn | .rdCvtFltOut | .rdCvtFltIn | .rdCvtFixOut => true
  | .wrCmd _ | .wrStatus _ | .wrErr _ | .wrIrqPend _ | .wrIrqEn _ => true
  | .wrCfgRate _ | .wrCfgChan _ | .wrCfgBlock _ | .wrCfgBus _ | .wrCfgMode _ => true
  | .wrMclkHz _ | .wrNSamples _ | .wrCfgErr _ | .wrCfgSum _ | .wrParams _ => true
  | .wrParamTimeout _ | .wrParamSettle _ | .wrRdStat _ | .wrRptr _ | .wrWrStat _ => true
  | .wrWptr _ | .wrParamMclkMult _ | .wrCvtFixIn _ | .wrCvtFltOut _ | .wrCvtFltIn _ => true
  | .wrCvtFixOut _ => true

end Sys2Proof
end

