-- ==== Sys2Proof/Decode.lean ====
section
/-! DEFINITION. The decoders, total on every command word and on every host access, and after them the encoder
(spec/30_encoding.md). An access outside the map is rejected by name; what the block then does is in
Machine/Cycle.lean (BUS_ALIGN, BUS_UNMAPPED) and Machine/RegWrite.lean (CMD_ILLEGAL). -/

namespace Sys2Proof

/-- The host access of one cycle, as the bus carries it (spec/20_memory.md R70). -/
structure Access where
  /-- bus_write: true = write. -/
  write : Bool
  /-- bus_size: 0 byte, 1 halfword, 2 word, 3 reserved. -/
  size : BitVec 2
  /-- bus_addr, the byte offset. -/
  addr : BitVec 20
  /-- bus_wdata. -/
  wdata : Word
  deriving DecidableEq, Repr

/-- The two encoded forms of an instruction (R100): a command word, or a host-access key with its write data. -/
inductive Encoded where
  | command (w : Word)
  | access (key : BitVec 21) (wdata : Word)
  deriving DecidableEq, Repr

/-- Why nothing is decoded. -/
inductive DecodeError where
  /-- not a naturally aligned word access (R71) -/
  | misaligned
  /-- no register or window at the offset (R72) -/
  | unmapped
  /-- a command word outside the six legal ones (R109) -/
  | illegalCommand
  deriving DecidableEq, Repr

/-- The commands of R105. -/
inductive Command where
  | nop
  | config
  | enable (powerOn : Bool)
  | readBlock
  | writeBlock
  deriving DecidableEq, Repr

/-- The instruction a command word stands for in the opcode table. -/
def commandInstr (c : Command) : Instr :=
  match c with
  | .nop => .nop
  | .config => .config
  | .enable p => .enable p
  | .readBlock => .readBlock
  | .writeBlock => .writeBlock

/-- The command decoder: the six legal words, complete (R106); every other word is illegal (R109). -/
def decodeCommand (w : Word) : Except DecodeError Command :=
  if w = 0x00000000#32 then .ok .nop
  else if w = 0x00000001#32 then .ok .config
  else if w = 0x00000002#32 then .ok (.enable false)
  else if w = 0x00000102#32 then .ok (.enable true)
  else if w = 0x00000003#32 then .ok .readBlock
  else if w = 0x00000004#32 then .ok .writeBlock
  else .error .illegalCommand

/-- The registers that a read reaches, by offset (spec/10_state.md R20). -/
def readableRegisters : List (BitVec 16 × Instr) :=
  [(0x000#16, .rdCmd),
   (0x004#16, .rdStatus),
   (0x008#16, .rdErr),
   (0x00C#16, .rdIrqPend),
   (0x010#16, .rdIrqEn),
   (0x020#16, .rdCfgRate),
   (0x024#16, .rdCfgChan),
   (0x028#16, .rdCfgBlock),
   (0x02C#16, .rdCfgBus),
   (0x030#16, .rdCfgMode),
   (0x034#16, .rdMclkHz),
   (0x038#16, .rdNSamples),
   (0x03C#16, .rdCfgErr),
   (0x040#16, .rdCfgSum),
   (0x044#16, .rdParams),
   (0x048#16, .rdParamTimeout),
   (0x04C#16, .rdParamSettle),
   (0x050#16, .rdRdStat),
   (0x054#16, .rdRptr),
   (0x058#16, .rdWrStat),
   (0x05C#16, .rdWptr),
   (0x060#16, .rdParamMclkMult),
   (0x070#16, .rdCvtFixIn),
   (0x074#16, .rdCvtFltOut),
   (0x078#16, .rdCvtFltIn),
   (0x07C#16, .rdCvtFixOut)]

/-- The registers that a write reaches, by offset (spec/10_state.md R20); the write's operand is bus_wdata. -/
def writableRegisters : List (BitVec 16 × (Word → Instr)) :=
  [(0x000#16, .wrCmd),
   (0x004#16, .wrStatus),
   (0x008#16, .wrErr),
   (0x00C#16, .wrIrqPend),
   (0x010#16, .wrIrqEn),
   (0x020#16, .wrCfgRate),
   (0x024#16, .wrCfgChan),
   (0x028#16, .wrCfgBlock),
   (0x02C#16, .wrCfgBus),
   (0x030#16, .wrCfgMode),
   (0x034#16, .wrMclkHz),
   (0x038#16, .wrNSamples),
   (0x03C#16, .wrCfgErr),
   (0x040#16, .wrCfgSum),
   (0x044#16, .wrParams),
   (0x048#16, .wrParamTimeout),
   (0x04C#16, .wrParamSettle),
   (0x050#16, .wrRdStat),
   (0x054#16, .wrRptr),
   (0x058#16, .wrWrStat),
   (0x05C#16, .wrWptr),
   (0x060#16, .wrParamMclkMult),
   (0x070#16, .wrCvtFixIn),
   (0x074#16, .wrCvtFltOut),
   (0x078#16, .wrCvtFltIn),
   (0x07C#16, .wrCvtFixOut)]

/-- The window index i = bus_addr[15:2] (R107). -/
def windowIndex (key : BitVec 21) : Nat := (key.extractLsb' 2 14).toNat

/-- Reads, by window K[19:16] (R108). -/
def decodeRead (key : BitVec 21) : Option Instr :=
  let window := key.extractLsb' 16 4
  if window = 0x0#4 then readableRegisters.lookup (key.extractLsb' 0 16)
  else if window = 0x1#4 then some (.rdRbuf (windowIndex key))
  else if window = 0x2#4 then some (.rdRbufF (windowIndex key))
  else if window = 0x3#4 then some (.rdWbuf (windowIndex key))
  else if window = 0x4#4 then some (.rdWbufF (windowIndex key))
  else none

/-- Writes, by window K[19:16] (R108). -/
def decodeWrite (key : BitVec 21) (v : Word) : Option Instr :=
  let window := key.extractLsb' 16 4
  if window = 0x0#4 then (writableRegisters.lookup (key.extractLsb' 0 16)).map (fun mk => mk v)
  else if window = 0x1#4 then some (.wrRbuf (windowIndex key) v)
  else if window = 0x2#4 then some (.wrRbufF (windowIndex key) v)
  else if window = 0x3#4 then some (.wrWbuf (windowIndex key) v)
  else if window = 0x4#4 then some (.wrWbufF (windowIndex key) v)
  else none

/-- The decode of a host-access key K = {bus_write, bus_addr} (R104, R108). -/
def decodeKey (key : BitVec 21) (v : Word) : Except DecodeError Instr :=
  if key.extractLsb' 0 2 = 0#2 then
    match (if key.getLsbD 20 then decodeWrite key v else decodeRead key) with
    | some i => .ok i
    | none => .error .unmapped
  else .error .misaligned

/-- The key of an access (R104). -/
def keyOf (write : Bool) (addr : BitVec 20) : BitVec 21 := BitVec.ofBool write ++ addr

/-- The decode of a host access: only an aligned 32-bit word is legal (R71). -/
def decodeAccess (a : Access) : Except DecodeError Instr :=
  if a.size = 2#2 then decodeKey (keyOf a.write a.addr) a.wdata else .error .misaligned

/-- The decode of either encoded form. -/
def decodeEncoded (e : Encoded) : Except DecodeError Instr :=
  match e with
  | .command w => (decodeCommand w).map commandInstr
  | .access key v => decodeKey key v

/-- The bus access that presents an encoded instruction: a command word is written to CMD, offset 0 (R101). -/
def presentEncoded (e : Encoded) : Access :=
  match e with
  | .command w => { write := true, size := 2#2, addr := 0x00000#20, wdata := w }
  | .access key v =>
    { write := key.getLsbD 20, size := 2#2, addr := key.extractLsb' 0 20, wdata := v }

/-- The key of a window access: K[20:16], index, 00 (R107, R108). -/
def windowKey (window : BitVec 5) (i : Nat) : BitVec 21 := window ++ BitVec.ofNat 14 i ++ 0#2

/-- The encoder: the command words of R106 and the keys of spec/opcode_table.json. -/
def encode (i : Instr) : Encoded :=
  match i with
  | .nop => .command 0x00000000#32
  | .config => .command 0x00000001#32
  | .enable false => .command 0x00000002#32
  | .enable true => .command 0x00000102#32
  | .readBlock => .command 0x00000003#32
  | .writeBlock => .command 0x00000004#32
  | .rdCmd => .access 0x000000#21 0#32
  | .rdStatus => .access 0x000004#21 0#32
  | .rdErr => .access 0x000008#21 0#32
  | .rdIrqPend => .access 0x00000C#21 0#32
  | .rdIrqEn => .access 0x000010#21 0#32
  | .rdCfgRate => .access 0x000020#21 0#32
  | .rdCfgChan => .access 0x000024#21 0#32
  | .rdCfgBlock => .access 0x000028#21 0#32
  | .rdCfgBus => .access 0x00002C#21 0#32
  | .rdCfgMode => .access 0x000030#21 0#32
  | .rdMclkHz => .access 0x000034#21 0#32
  | .rdNSamples => .access 0x000038#21 0#32
  | .rdCfgErr => .access 0x00003C#21 0#32
  | .rdCfgSum => .access 0x000040#21 0#32
  | .rdParams => .access 0x000044#21 0#32
  | .rdParamTimeout => .access 0x000048#21 0#32
  | .rdParamSettle => .access 0x00004C#21 0#32
  | .rdRdStat => .access 0x000050#21 0#32
  | .rdRptr => .access 0x000054#21 0#32
  | .rdWrStat => .access 0x000058#21 0#32
  | .rdWptr => .access 0x00005C#21 0#32
  | .rdParamMclkMult => .access 0x000060#21 0#32
  | .rdCvtFixIn => .access 0x000070#21 0#32
  | .rdCvtFltOut => .access 0x000074#21 0#32
  | .rdCvtFltIn => .access 0x000078#21 0#32
  | .rdCvtFixOut => .access 0x00007C#21 0#32
  | .wrCmd v => .access 0x100000#21 v
  | .wrStatus v => .access 0x100004#21 v
  | .wrErr v => .access 0x100008#21 v
  | .wrIrqPend v => .access 0x10000C#21 v
  | .wrIrqEn v => .access 0x100010#21 v
  | .wrCfgRate v => .access 0x100020#21 v
  | .wrCfgChan v => .access 0x100024#21 v
  | .wrCfgBlock v => .access 0x100028#21 v
  | .wrCfgBus v => .access 0x10002C#21 v
  | .wrCfgMode v => .access 0x100030#21 v
  | .wrMclkHz v => .access 0x100034#21 v
  | .wrNSamples v => .access 0x100038#21 v
  | .wrCfgErr v => .access 0x10003C#21 v
  | .wrCfgSum v => .access 0x100040#21 v
  | .wrParams v => .access 0x100044#21 v
  | .wrParamTimeout v => .access 0x100048#21 v
  | .wrParamSettle v => .access 0x10004C#21 v
  | .wrRdStat v => .access 0x100050#21 v
  | .wrRptr v => .access 0x100054#21 v
  | .wrWrStat v => .access 0x100058#21 v
  | .wrWptr v => .access 0x10005C#21 v
  | .wrParamMclkMult v => .access 0x100060#21 v
  | .wrCvtFixIn v => .access 0x100070#21 v
  | .wrCvtFltOut v => .access 0x100074#21 v
  | .wrCvtFltIn v => .access 0x100078#21 v
  | .wrCvtFixOut v => .access 0x10007C#21 v
  | .rdRbuf i => .access (windowKey 0x01#5 i) 0#32
  | .rdRbufF i => .access (windowKey 0x02#5 i) 0#32
  | .rdWbuf i => .access (windowKey 0x03#5 i) 0#32
  | .rdWbufF i => .access (windowKey 0x04#5 i) 0#32
  | .wrRbuf i v => .access (windowKey 0x11#5 i) v
  | .wrRbufF i v => .access (windowKey 0x12#5 i) v
  | .wrWbuf i v => .access (windowKey 0x13#5 i) v
  | .wrWbufF i v => .access (windowKey 0x14#5 i) v

/-- A row of spec/opcode_table.json as the host numbers it: a row of more than 24 bits is a command word, a row of
at most 24 bits is a host-access key (21 bits) whose write data, which the table gives no bits, is 0 (log 13). -/
def encodedOfTable (nbits w : Nat) : Option Encoded :=
  if nbits ≤ 24 then
    if w < 2 ^ 21 then some (.access (BitVec.ofNat 21 w) 0#32) else none
  else if w < 2 ^ 32 then some (.command (BitVec.ofNat 32 w)) else none

/-- The instruction the decoder reads from the bits `w` of a table row. -/
def decodeTableWord (nbits w : Nat) : Option Instr :=
  match encodedOfTable nbits w with
  | none => none
  | some e =>
    match decodeEncoded e with
    | .ok i => some i
    | .error _ => none

end Sys2Proof
end

