-- ==== Sys2Proof/Machine/State.lean ====
section
/-! DEFINITION. The state of the block as plain data: every register, hidden register, buffer and port that
spec/10_state.md names, the parameters of spec/00_scope.md R6, and what the host and the external agents drive
in the coming cycles. -/

namespace Sys2Proof.Machine

/-- STATUS.STATE, the lifecycle state (R24). -/
inductive LifeState where
  | uninit
  | configured
  | running
  | poweredOff
  deriving DecidableEq, Repr

/-- CFG_STAGE, the stages of the CONFIG sequencer (R45, R181). The unused codes 12 to 15 are never reached (R110)
and have no name here (log 11). -/
inductive CfgStage where
  | idle
  | validate
  | powerDown
  | mclk
  | install
  | pins
  | rate
  | zero
  | clkRoute
  | settle
  | alloc
  | finish
  deriving DecidableEq, Repr

/-- The input ports that the three external agents drive in one cycle (R47, R296). -/
structure AgentIn where
  rxValid : Bool
  rxData : Word
  rxErr : Bool
  txReady : Bool
  txErr : Bool
  perAck : Bool
  perStatus : Word
  deriving DecidableEq, Repr

/-- One operation of a host program (R115). -/
inductive HostOp where
  /-- `WR32`, `RD32`, or an access of any other size: one cycle with bus_valid = 1. -/
  | access (a : Access)
  /-- `POLL off, mask, value`: repeat `RD32 off` until (read & mask) = value. -/
  | poll (off : BitVec 20) (mask value : Word)
  /-- `IDLE n`: n cycles with bus_valid = 0. -/
  | idle (n : Nat)
  /-- One cycle with rst_n = 0, with the access the host presents in it, if any (R290). -/
  | reset (a : Option Access)
  deriving DecidableEq, Repr

/-- The output ports that R47 gives as functions of the state at the start of a cycle. -/
structure PortsOut where
  rxReady : Bool
  rxCh : BitVec 8
  txValid : Bool
  txData : Word
  txCh : BitVec 8
  perReq : Bool
  perStage : BitVec 3
  perArg : Word
  pwrEn : Bool
  mclkEn : Bool
  mclkHz : Word
  irq : Bool
  deriving DecidableEq, Repr

/-- A buffer as stored: byte cells by byte offset in its window, addresses strictly rising, no listed byte 0. -/
abbrev Memory := List Host.Cell

/-- What an unlisted byte of a buffer reads as (log 4). -/
def unlistedByte : Byte := 0#8

/-- The cells from address `lo` on are in canonical form: addresses strictly rising, no cell equal to what an
unlisted address reads as. -/
def canonicalFrom (lo : Nat) (m : Memory) : Bool :=
  match m with
  | [] => true
  | (a, b) :: rest => decide (lo ≤ a) && decide (b ≠ unlistedByte) && canonicalFrom (a + 1) rest

/-- The canonical form of a buffer. -/
def Memory.wf (m : Memory) : Bool := canonicalFrom 0 m

/-- The state of the machine. -/
structure State where
  /-- The parameters of R6, shown by PARAMS, PARAM_TIMEOUT, PARAM_SETTLE and PARAM_MCLK_MULT (R37). -/
  params : Params
  /-- STATUS.STATE (R23, R24). -/
  life : LifeState
  /-- STATUS.CFG_BUSY (R23). -/
  cfgBusy : Bool
  /-- STATUS.RD_BUSY (R23). -/
  rdBusy : Bool
  /-- STATUS.WR_BUSY (R23). -/
  wrBusy : Bool
  /-- STATUS.PWR (R23, R211). -/
  pwr : Bool
  /-- STATUS.MCLK_EN (R23, R191). -/
  mclkEn : Bool
  /-- ERR bits 9:0; bits 31:10 are reserved (R25). -/
  err : BitVec 10
  /-- IRQ_PEND bits 3:0 (R26). -/
  irqPend : BitVec 4
  /-- IRQ_EN bits 3:0 (R27). -/
  irqEn : BitVec 4
  /-- CFG_RATE.RATE (R28). -/
  cfgRate : Word
  /-- CFG_CHAN.CHANNELS (R29). -/
  cfgChan : BitVec 8
  /-- CFG_BLOCK.FRAMES (R30). -/
  cfgBlock : BitVec 16
  /-- CFG_BUS.BUS_ID (R31). -/
  cfgBus : BitVec 8
  /-- CFG_MODE.MASTER, the one stored bit of CFG_MODE (R32). -/
  cfgMaster : Bool
  /-- MCLK_HZ (R33). -/
  mclkHz : Word
  /-- N_ACTIVE, shown by N_SAMPLES (R34, R45). -/
  nActive : BitVec 15
  /-- CFG_ERR bits 7:0 (R35). -/
  cfgErr : BitVec 8
  /-- CFG_SUM (R36). -/
  cfgSum : Word
  /-- RD_STAT bits 4:0 (R38). -/
  rdStat : BitVec 5
  /-- RPTR (R39). -/
  rptr : Word
  /-- WR_STAT bits 5:0 (R40). -/
  wrStat : BitVec 6
  /-- WPTR (R41). -/
  wptr : Word
  /-- CVT_FIX_IN (R42). -/
  cvtFixIn : Word
  /-- CVT_FLT_IN (R42). -/
  cvtFltIn : Word
  /-- TMR (R45, R270). -/
  tmr : Word
  /-- CFG_STAGE (R45, R181). -/
  cfgStage : CfgStage
  /-- REQ (R45, R185). -/
  req : Bool
  /-- The words of RBUF (R43). -/
  rbuf : Memory
  /-- The words of WBUF (R43). -/
  wbuf : Memory
  /-- bus_rdata as driven in the last cycle (R70). -/
  busRdata : Word
  /-- bus_err as driven in the last cycle (R70, R261). -/
  busErr : Bool
  /-- The other output ports as driven in the last cycle (R47, R293 step 0). -/
  out : PortsOut
  /-- The model's own: cycles so far, the argument of the free values (log 2). -/
  cycle : Nat
  /-- The model's own: the host program still to run, the next operation first (log 3). -/
  host : List HostOp
  /-- The model's own: what the external agents drive in the coming cycles, this cycle first; where the list has
  ended they drive free values (log 2). -/
  agents : List AgentIn
  deriving DecidableEq, Repr

/-- The output ports of the reset state (R48). -/
def PortsOut.reset : PortsOut where
  rxReady := false
  rxCh := 0
  txValid := false
  txData := 0
  txCh := 0
  perReq := false
  perStage := 0
  perArg := 0
  pwrEn := false
  mclkEn := false
  mclkHz := 0
  irq := false

/-- The machine after a cycle with rst_n = 0 (R48, R290), no host program loaded. -/
def State.reset : State where
  params := Config.params
  life := .uninit
  cfgBusy := false
  rdBusy := false
  wrBusy := false
  pwr := false
  mclkEn := false
  err := 0
  irqPend := 0
  irqEn := 0
  cfgRate := 48000
  cfgChan := 2
  cfgBlock := 256
  cfgBus := 0
  cfgMaster := true
  mclkHz := 0
  nActive := 0
  cfgErr := 0
  cfgSum := 0
  rdStat := 0
  rptr := 0
  wrStat := 0
  wptr := 0
  cvtFixIn := 0
  cvtFltIn := 0
  tmr := 0
  cfgStage := .idle
  req := false
  rbuf := []
  wbuf := []
  busRdata := 0
  busErr := false
  out := PortsOut.reset
  cycle := 0
  host := []
  agents := []

/-- Why the machine stops with a fault: never. R260: the block "has no halted, faulted or stuck state"; every condition a
processor would trap on is recorded in ERR and the block goes on. No constructor, so no step can end in one (safe). -/
inductive Fault where
  deriving DecidableEq, Repr

/-- Why an instruction has no meaning. -/
inductive Refusal where
  /-- Raised by an arm of `exec` for an instruction not modelled yet (safe). No arm raises it: every instruction of
  the opcode table has its meaning. -/
  | notModelled (mnemonic : String)
  deriving DecidableEq, Repr

end Sys2Proof.Machine
end

