-- ==== Sys2Proof/Machine/Flags.lean ====
section
/-! DEFINITION. The bits of the status registers: their places (spec/10_state.md R22-R41), how one is set, and the words
that the registers show. -/

namespace Sys2Proof.Machine

/-- Set bit `k`. -/
def setBit {n : Nat} (x : BitVec n) (k : Nat) : BitVec n := x ||| BitVec.twoPow n k

/-- Write `b` to bit `k`. -/
def putBit {n : Nat} (x : BitVec n) (k : Nat) (b : Bool) : BitVec n :=
  if b then setBit x k else x &&& ~~~ BitVec.twoPow n k

/-- The write-1-to-clear of R21: clear each bit whose written value is 1. -/
def clearWritten {n : Nat} (x : BitVec n) (v : Word) : BitVec n := x &&& ~~~ (v.extractLsb' 0 n)

/-- The ten error causes (R25, R264). -/
inductive ErrCause where
  | cmdIllegal
  | cmdBusy
  | cmdState
  | busAlign
  | busUnmapped
  | busRo
  | cfgLocked
  | busRange
  | hazRbuf
  | hazWbuf
  deriving DecidableEq, Repr

/-- The ERR bit of a cause, its code (R25, R264). -/
def errBit (c : ErrCause) : Nat :=
  match c with
  | .cmdIllegal => 0
  | .cmdBusy => 1
  | .cmdState => 2
  | .busAlign => 3
  | .busUnmapped => 4
  | .busRo => 5
  | .cfgLocked => 6
  | .busRange => 7
  | .hazRbuf => 8
  | .hazWbuf => 9

/-! Bits of IRQ_PEND and IRQ_EN (R26, R265). -/

def irqCfgDone : Nat := 0
def irqRdDone : Nat := 1
def irqWrDone : Nat := 2
def irqErr : Nat := 3

/-! Bits of CFG_ERR (R35). -/

def cfgErrLayout : Nat := 0
def cfgErrSize : Nat := 1
def cfgErrClkRange : Nat := 2
def cfgErrInstall : Nat := 3
def cfgErrPins : Nat := 4
def cfgErrRate : Nat := 5
def cfgErrZero : Nat := 6
def cfgErrStageTimeout : Nat := 7

/-! Bits of RD_STAT and WR_STAT (R38, R40). -/

def statDone : Nat := 0
def statTimeout : Nat := 1
def statShort : Nat := 2
def statPerErr : Nat := 3
def statErr : Nat := 4
def statZero : Nat := 5

/-- The code of STATE in STATUS bits 1:0 (R24). -/
def lifeCode (l : LifeState) : BitVec 2 :=
  match l with
  | .uninit => 0
  | .configured => 1
  | .running => 2
  | .poweredOff => 3

/-- The code of CFG_STAGE (R45). -/
def stageCode (c : CfgStage) : BitVec 4 :=
  match c with
  | .idle => 0
  | .validate => 1
  | .powerDown => 2
  | .mclk => 3
  | .install => 4
  | .pins => 5
  | .rate => 6
  | .zero => 7
  | .clkRoute => 8
  | .settle => 9
  | .alloc => 10
  | .finish => 11

/-- The interrupt line: OR(IRQ_PEND & IRQ_EN) (R262). -/
def irqLine (s : State) : Bool := decide (s.irqPend &&& s.irqEn ≠ 0#4)

/-- STATUS (R23). -/
def statusWord (s : State) : Word :=
  0#24 ++ BitVec.ofBool (irqLine s) ++ BitVec.ofBool s.mclkEn ++ BitVec.ofBool s.pwr ++
    BitVec.ofBool s.wrBusy ++ BitVec.ofBool s.rdBusy ++ BitVec.ofBool s.cfgBusy ++ lifeCode s.life

/-- CFG_MODE: the fixed fields SIG_BITS = 24, CONT_BITS = 32, MSB_FIRST, RX_EN, TX_EN, INTERLEAVED, and MASTER (R32). -/
def cfgModeWord (master : Bool) : Word :=
  0#4 ++ 1#1 ++ 1#1 ++ 1#1 ++ 1#1 ++ 32#8 ++ 24#8 ++ 0#7 ++ BitVec.ofBool master

/-- WIRE_CHANNELS (R7). -/
def wireChannels : Nat := 2

/-- PARAMS: MAX_SAMPLES, WIRE_CHANNELS, NUM_BUS - 1 (R37). -/
def paramsWord (p : Params) : Word :=
  BitVec.ofNat 8 (p.numBus - 1) ++ BitVec.ofNat 8 wireChannels ++ BitVec.ofNat 16 p.maxSamples

/-- RD_STAT when a read completes: DONE, and ERR = PER_ERR (R230). -/
def rdStatComplete (st : BitVec 5) : BitVec 5 :=
  putBit (setBit st statDone) statErr (st.getLsbD statPerErr)

/-- RD_STAT when a read times out: DONE, TIMEOUT, SHORT, ERR (R230). -/
def rdStatTimeout (st : BitVec 5) : BitVec 5 :=
  setBit (setBit (setBit (setBit st statDone) statTimeout) statShort) statErr

/-- WR_STAT when a write completes: DONE, and ERR = PER_ERR (R234). -/
def wrStatComplete (st : BitVec 6) : BitVec 6 :=
  putBit (setBit st statDone) statErr (st.getLsbD statPerErr)

/-- WR_STAT when a write times out: DONE, TIMEOUT, SHORT, ZERO = no word moved, ERR = ZERO or PER_ERR (R234). -/
def wrStatTimeout (st : BitVec 6) (zero : Bool) : BitVec 6 :=
  putBit (putBit (setBit (setBit (setBit st statDone) statTimeout) statShort) statZero zero)
    statErr (zero || st.getLsbD statPerErr)

end Sys2Proof.Machine
end

