-- ==== Sys2Proof/Machine/Ops.lean ====
section
/-! DEFINITION. The named operations: the stored buffers, the bus response, and raising an error, which is this block's
one shared exception operation (spec/60_exceptions.md R261). -/

namespace Sys2Proof.Machine

/-! ### Buffers -/

/-- Read one byte of a buffer. -/
def readByte (m : Memory) (a : Nat) : Byte :=
  match m with
  | [] => unlistedByte
  | (x, b) :: rest => if x = a then b else readByte rest a

/-- Write one byte of a buffer, keeping the canonical form: writing what an unlisted byte reads as removes the cell. -/
def writeByte (m : Memory) (a : Nat) (v : Byte) : Memory :=
  match m with
  | [] => if v = unlistedByte then [] else [(a, v)]
  | (x, b) :: rest =>
    if a < x then (if v = unlistedByte then (x, b) :: rest else (a, v) :: (x, b) :: rest)
    else if a = x then (if v = unlistedByte then rest else (a, v) :: rest)
    else (x, b) :: writeByte rest a v

/-- The byte offset in its window of the buffer word of index `i`: 4 x i (R44). -/
def wordAddr (i : Nat) : Nat := 4 * i

/-- Read the word at byte offset `a`; the least significant byte lies lowest, which no access can observe (R78, log 5). -/
def readWord (m : Memory) (a : Nat) : Word :=
  readByte m (a + 3) ++ readByte m (a + 2) ++ readByte m (a + 1) ++ readByte m a

/-- Write the word at byte offset `a`. -/
def writeWord (m : Memory) (a : Nat) (v : Word) : Memory :=
  writeByte (writeByte (writeByte (writeByte m a (v.extractLsb' 0 8)) (a + 1) (v.extractLsb' 8 8))
    (a + 2) (v.extractLsb' 16 8)) (a + 3) (v.extractLsb' 24 8)

/-- Every word 0x00000000: what the ALLOC stage leaves (R193). -/
def zeroed : Memory := []

/-! ### Errors -/

/-- `raise Error(NAME)` (R261): the ERR bit, IRQ_PEND.ERR, and bus_err of this access. It never traps and never stops
the block (R260). -/
def raiseError (c : ErrCause) (s : State) : State :=
  { s with err := setBit s.err (errBit c), irqPend := setBit s.irqPend irqErr, busErr := true }

/-! ### The bus response of an access -/

/-- A read returns `v` on bus_rdata in its cycle, bus_err = 0 (R70). -/
def respondRead (v : Word) (s : State) : State := { s with busRdata := v, busErr := false }

/-- A write: bus_err = 0; bus_rdata is a free value, since R70 gives it none (log 6). -/
def respondWrite (s : State) : State :=
  { s with busRdata := Config.freeBusRdata s.cycle, busErr := false }

/-- A read that is performed: no state changes but the bus response (R76). -/
def readReply (v : Word) (s : State) : Host.Outcome State Fault Refusal := .next (respondRead v s)

/-- A read that is not performed: it returns 0 and raises one error (R71, R72, R240). -/
def refuseRead (c : ErrCause) (s : State) : Host.Outcome State Fault Refusal :=
  .next (raiseError c (respondRead 0#32 s))

/-- A write that is not performed: nothing changes but the error it raises (R71, R72, R46, R163, R240). -/
def refuseWrite (c : ErrCause) (s : State) : Host.Outcome State Fault Refusal :=
  .next (raiseError c (respondWrite s))

/-- A write that is performed, with its effect `f`. -/
def acceptWrite (f : State → State) (s : State) : Host.Outcome State Fault Refusal :=
  .next (f (respondWrite s))

/-! ### Conditions -/

/-- BUSY = CFG_BUSY or RD_BUSY or WR_BUSY (R162). -/
def busy (s : State) : Bool := s.cfgBusy || s.rdBusy || s.wrBusy

/-- The configuration registers may be written: STATE = UNINIT and CFG_BUSY = 0 (R21). -/
def unlocked (s : State) : Bool := decide (s.life = .uninit) && !s.cfgBusy

/-- A write to a configuration register: performed while unlocked, else ignored with CFG_LOCKED (R21). -/
def lockedWrite (f : State → State) (s : State) : Host.Outcome State Fault Refusal :=
  if unlocked s then acceptWrite f s else refuseWrite .cfgLocked s

/-! ### Sequencing -/

/-- Go on with `f` where `o` answers a next state. -/
def andThen (o : Host.Outcome State Fault Refusal) (f : State → State) : Host.Outcome State Fault Refusal :=
  match o with
  | .next s => .next (f s)
  | .fault r => .fault r
  | .refused r => .refused r

end Sys2Proof.Machine
end

