-- ==== Sys2Proof/Machine/Operands.lean ====
section
/-! DEFINITION. The operand forms (spec/30_encoding.md R107): a buffer window's index and its range, and the place of an index
in the interleaved block (spec/44_block_io.md R236). -/

namespace Sys2Proof.Machine

/-- Index i is inside the block: i < N_ACTIVE (R240). -/
def inRange (i : Nat) (s : State) : Bool := decide (i < s.nActive.toNat)

/-- RBUF[i] as a word. -/
def rbufWord (s : State) (i : Nat) : Word := readWord s.rbuf (wordAddr i)

/-- WBUF[i] as a word. -/
def wbufWord (s : State) (i : Nat) : Word := readWord s.wbuf (wordAddr i)

/-- RBUF[i] <- v. -/
def storeRbuf (i : Nat) (v : Word) (s : State) : State := { s with rbuf := writeWord s.rbuf (wordAddr i) v }

/-- WBUF[i] <- v. -/
def storeWbuf (i : Nat) (v : Word) (s : State) : State := { s with wbuf := writeWord s.wbuf (wordAddr i) v }

/-- A read of the read buffer showing `view` of the word: range check, then the word of the start of the cycle, with
HAZ_RBUF while a READ_BLOCK is in flight (R144, R241, R243). -/
def readRbufWindow (view : Word → Word) (i : Nat) (s : State) : Host.Outcome State Fault Refusal :=
  if inRange i s then
    if s.rdBusy then .next (raiseError .hazRbuf (respondRead (view (rbufWord s i)) s))
    else readReply (view (rbufWord s i)) s
  else refuseRead .busRange s

/-- A read of the write buffer showing `view` of the word; never a hazard (R146, R242). -/
def readWbufWindow (view : Word → Word) (i : Nat) (s : State) : Host.Outcome State Fault Refusal :=
  if inRange i s then readReply (view (wbufWord s i)) s else refuseRead .busRange s

/-- A write of the word `v` to the write buffer: range check, then the store, with HAZ_WBUF while a WRITE_BLOCK is in
flight (R145, R245, R243). -/
def writeWbufWindow (i : Nat) (v : Word) (s : State) : Host.Outcome State Fault Refusal :=
  if inRange i s then
    if s.wrBusy then .next (raiseError .hazWbuf (storeWbuf i v (respondWrite s)))
    else acceptWrite (storeWbuf i v) s
  else refuseWrite .busRange s

/-- The channel of buffer index `i`: i mod C (R236). -/
def channelOf (c i : Nat) : Nat := i % c

/-- The frame of buffer index `i`: i div C (R236). -/
def frameOf (c i : Nat) : Nat := i / c

/-- The host byte address of byte offset `off` (R73). -/
def hostAddress (p : Params) (off : BitVec 20) : Nat := p.blockBase + off.toNat

end Sys2Proof.Machine
end

