-- ==== Sys2Proof/Machine/RegRead.lean ====
section
/-! DEFINITION. The register reads: the register as it stands at the start of the cycle, no state changed but the bus response
(spec/10_state.md R21, spec/20_memory.md R70, R76). -/

namespace Sys2Proof.Machine

/-- RD.CMD: WO, reads 0 (R22). -/
def execRdCmd (s : State) : Host.Outcome State Fault Refusal := readReply 0#32 s

/-- RD.STATUS: (R23). -/
def execRdStatus (s : State) : Host.Outcome State Fault Refusal := readReply (statusWord s) s

/-- RD.ERR: bits 31:10 read 0 (R25). -/
def execRdErr (s : State) : Host.Outcome State Fault Refusal := readReply (s.err.setWidth 32) s

/-- RD.IRQ_PEND: bits 31:4 read 0 (R26). -/
def execRdIrqPend (s : State) : Host.Outcome State Fault Refusal := readReply (s.irqPend.setWidth 32) s

/-- RD.IRQ_EN: bits 31:4 read 0 (R27). -/
def execRdIrqEn (s : State) : Host.Outcome State Fault Refusal := readReply (s.irqEn.setWidth 32) s

/-- RD.CFG_RATE: (R28). -/
def execRdCfgRate (s : State) : Host.Outcome State Fault Refusal := readReply s.cfgRate s

/-- RD.CFG_CHAN: bits 31:8 read 0 (R29). -/
def execRdCfgChan (s : State) : Host.Outcome State Fault Refusal := readReply (s.cfgChan.setWidth 32) s

/-- RD.CFG_BLOCK: bits 31:16 read 0 (R30). -/
def execRdCfgBlock (s : State) : Host.Outcome State Fault Refusal := readReply (s.cfgBlock.setWidth 32) s

/-- RD.CFG_BUS: bits 31:8 read 0 (R31). -/
def execRdCfgBus (s : State) : Host.Outcome State Fault Refusal := readReply (s.cfgBus.setWidth 32) s

/-- RD.CFG_MODE: (R32). -/
def execRdCfgMode (s : State) : Host.Outcome State Fault Refusal := readReply (cfgModeWord s.cfgMaster) s

/-- RD.MCLK_HZ: (R33). -/
def execRdMclkHz (s : State) : Host.Outcome State Fault Refusal := readReply s.mclkHz s

/-- RD.N_SAMPLES: N_ACTIVE (R34). -/
def execRdNSamples (s : State) : Host.Outcome State Fault Refusal := readReply (s.nActive.setWidth 32) s

/-- RD.CFG_ERR: bits 31:8 read 0 (R35). -/
def execRdCfgErr (s : State) : Host.Outcome State Fault Refusal := readReply (s.cfgErr.setWidth 32) s

/-- RD.CFG_SUM: (R36). -/
def execRdCfgSum (s : State) : Host.Outcome State Fault Refusal := readReply s.cfgSum s

/-- RD.PARAMS: (R37). -/
def execRdParams (s : State) : Host.Outcome State Fault Refusal := readReply (paramsWord s.params) s

/-- RD.PARAM_TIMEOUT: TIMEOUT_CYCLES (R37). -/
def execRdParamTimeout (s : State) : Host.Outcome State Fault Refusal := readReply (BitVec.ofNat 32 s.params.timeout) s

/-- RD.PARAM_SETTLE: SETTLE_CYCLES (R37). -/
def execRdParamSettle (s : State) : Host.Outcome State Fault Refusal := readReply (BitVec.ofNat 32 s.params.settle) s

/-- RD.RD_STAT: bits 31:5 read 0 (R38). -/
def execRdRdStat (s : State) : Host.Outcome State Fault Refusal := readReply (s.rdStat.setWidth 32) s

/-- RD.RPTR: (R39). -/
def execRdRptr (s : State) : Host.Outcome State Fault Refusal := readReply s.rptr s

/-- RD.WR_STAT: bits 31:6 read 0 (R40). -/
def execRdWrStat (s : State) : Host.Outcome State Fault Refusal := readReply (s.wrStat.setWidth 32) s

/-- RD.WPTR: (R41). -/
def execRdWptr (s : State) : Host.Outcome State Fault Refusal := readReply s.wptr s

/-- RD.PARAM_MCLK_MULT: MCLK_MULT (R37). -/
def execRdParamMclkMult (s : State) : Host.Outcome State Fault Refusal := readReply (BitVec.ofNat 32 s.params.mclkMult) s

/-- RD.CVT_FIX_IN: (R42). -/
def execRdCvtFixIn (s : State) : Host.Outcome State Fault Refusal := readReply s.cvtFixIn s

/-- RD.CVT_FLT_OUT: toFloat(CVT_FIX_IN), storing nothing (R42, R142). -/
def execRdCvtFltOut (s : State) : Host.Outcome State Fault Refusal := readReply (toFloat s.cvtFixIn) s

/-- RD.CVT_FLT_IN: (R42). -/
def execRdCvtFltIn (s : State) : Host.Outcome State Fault Refusal := readReply s.cvtFltIn s

/-- RD.CVT_FIX_OUT: toFixed(CVT_FLT_IN), storing nothing (R42, R143). -/
def execRdCvtFixOut (s : State) : Host.Outcome State Fault Refusal := readReply (toFixed s.cvtFltIn) s

end Sys2Proof.Machine
end

