-- ==== Sys2Proof/Machine/Commands.lean ====
section
/-! DEFINITION. The commands (spec/41_control.md, spec/42_setup.md R180, spec/43_power.md, spec/44_block_io.md R220, R224): acceptance
and refusal, and the effect of an accepted command in the cycle of its CMD write. -/

namespace Sys2Proof.Machine

/-- NOP: accepted in every state, changes nothing (R165). -/
def execNop (s : State) : Host.Outcome State Fault Refusal := acceptWrite id s

/-- What an accepted CONFIG does in its cycle; the first stage runs in the next one (R180). -/
def startConfig (s : State) : State :=
  { s with
    cfgBusy := true, cfgStage := .validate, tmr := 0#32, cfgErr := 0#8, cfgSum := 0#32,
    rdStat := 0#5, rptr := 0#32, wrStat := 0#6, wptr := 0#32 }

/-- CONFIG: accepted iff BUSY = 0 and STATE = UNINIT; else CMD_BUSY before CMD_STATE (R162, R163, R180). -/
def execConfig (s : State) : Host.Outcome State Fault Refusal :=
  if busy s then refuseWrite .cmdBusy s
  else if s.life = .uninit then acceptWrite startConfig s
  else refuseWrite .cmdState s

/-- STATE after an accepted ENABLE(p) (R166, R210). -/
def lifeAfterEnable (p : Bool) (l : LifeState) : LifeState :=
  match l with
  | .uninit => .uninit
  | .configured => .configured
  | .running => if p then .running else .poweredOff
  | .poweredOff => if p then .running else .poweredOff

/-- What an accepted ENABLE(p) does (R210). -/
def setPower (p : Bool) (s : State) : State := { s with pwr := p, life := lifeAfterEnable p s.life }

/-- ENABLE(p): accepted iff CFG_BUSY = 0, in every STATE and during a transfer (R162, R210). -/
def execEnable (powerOn : Bool) (s : State) : Host.Outcome State Fault Refusal :=
  if s.cfgBusy then refuseWrite .cmdBusy s else acceptWrite (setPower powerOn) s

/-- STATE after an accepted transfer command: CONFIGURED moves by PWR, any other STATE stays (R166, R220, R224). -/
def lifeAfterTransferCommand (s : State) : LifeState :=
  if s.life = .configured then (if s.pwr then .running else .poweredOff) else s.life

/-- What an accepted READ_BLOCK does in its cycle (R220). -/
def startRead (s : State) : State :=
  { s with rdBusy := true, rptr := 0#32, rdStat := 0#5, tmr := 0#32, life := lifeAfterTransferCommand s }

/-- What an accepted WRITE_BLOCK does in its cycle (R224). -/
def startWrite (s : State) : State :=
  { s with wrBusy := true, wptr := 0#32, wrStat := 0#6, tmr := 0#32, life := lifeAfterTransferCommand s }

/-- READ_BLOCK: accepted iff BUSY = 0 and STATE ≠ UNINIT; else CMD_BUSY before CMD_STATE (R162, R163, R220). -/
def execReadBlock (s : State) : Host.Outcome State Fault Refusal :=
  if busy s then refuseWrite .cmdBusy s
  else if s.life = .uninit then refuseWrite .cmdState s
  else acceptWrite startRead s

/-- WRITE_BLOCK: accepted iff BUSY = 0 and STATE ≠ UNINIT; else CMD_BUSY before CMD_STATE (R162, R163, R224). -/
def execWriteBlock (s : State) : Host.Outcome State Fault Refusal :=
  if busy s then refuseWrite .cmdBusy s
  else if s.life = .uninit then refuseWrite .cmdState s
  else acceptWrite startWrite s

/-- A decoded command (R160). -/
def execCommand (c : Command) (s : State) : Host.Outcome State Fault Refusal :=
  match c with
  | .nop => execNop s
  | .config => execConfig s
  | .enable p => execEnable p s
  | .readBlock => execReadBlock s
  | .writeBlock => execWriteBlock s

end Sys2Proof.Machine
end

