-- ==== Sys2Proof/Machine/RegWrite.lean ====
section
/-! DEFINITION. The register writes (spec/10_state.md R21, R46): the command register, write-1-to-clear, read-write, locked, and the
registers with no writable field. -/

namespace Sys2Proof.Machine

/-- WR.CMD: present the word to the command decoder; an illegal word raises CMD_ILLEGAL and changes nothing else (R160, R161). -/
def execWrCmd (w : Word) (s : State) : Host.Outcome State Fault Refusal :=
  match decodeCommand w with
  | .ok c => execCommand c s
  | .error _ => refuseWrite .cmdIllegal s

/-- WR.ERR: W1C (R21, R25). -/
def execWrErr (v : Word) (s : State) : Host.Outcome State Fault Refusal :=
  acceptWrite (fun t => { t with err := clearWritten t.err v }) s

/-- WR.IRQ_PEND: W1C (R21, R26); a bit that an event of the same cycle sets stays 1 (Machine/Cycle.lean). -/
def execWrIrqPend (v : Word) (s : State) : Host.Outcome State Fault Refusal :=
  acceptWrite (fun t => { t with irqPend := clearWritten t.irqPend v }) s

/-- WR.IRQ_EN: bits 3:0 are stored (R27). -/
def execWrIrqEn (v : Word) (s : State) : Host.Outcome State Fault Refusal :=
  acceptWrite (fun t => { t with irqEn := v.extractLsb' 0 4 }) s

/-- WR.CFG_RATE: locked (R21, R28). -/
def execWrCfgRate (v : Word) (s : State) : Host.Outcome State Fault Refusal :=
  lockedWrite (fun t => { t with cfgRate := v }) s

/-- WR.CFG_CHAN: locked, bits 7:0 are stored (R21, R29). -/
def execWrCfgChan (v : Word) (s : State) : Host.Outcome State Fault Refusal :=
  lockedWrite (fun t => { t with cfgChan := v.extractLsb' 0 8 }) s

/-- WR.CFG_BLOCK: locked, bits 15:0 are stored (R21, R30). -/
def execWrCfgBlock (v : Word) (s : State) : Host.Outcome State Fault Refusal :=
  lockedWrite (fun t => { t with cfgBlock := v.extractLsb' 0 16 }) s

/-- WR.CFG_BUS: locked, bits 7:0 are stored (R21, R31); VALIDATE clamps them later (R182). -/
def execWrCfgBus (v : Word) (s : State) : Host.Outcome State Fault Refusal :=
  lockedWrite (fun t => { t with cfgBus := v.extractLsb' 0 8 }) s

/-- WR.CFG_MODE: locked, bit 0 is stored, the other fields ignore the write with no error (R21, R32). -/
def execWrCfgMode (v : Word) (s : State) : Host.Outcome State Fault Refusal :=
  lockedWrite (fun t => { t with cfgMaster := v.getLsbD 0 }) s

/-- WR.CVT_FIX_IN (R42). -/
def execWrCvtFixIn (v : Word) (s : State) : Host.Outcome State Fault Refusal :=
  acceptWrite (fun t => { t with cvtFixIn := v }) s

/-- WR.CVT_FLT_IN (R42). -/
def execWrCvtFltIn (v : Word) (s : State) : Host.Outcome State Fault Refusal :=
  acceptWrite (fun t => { t with cvtFltIn := v }) s

/-- WR.STATUS: no writable field; BUS_RO and nothing changed (R46). -/
def execWrStatus (_v : Word) (s : State) : Host.Outcome State Fault Refusal := refuseWrite .busRo s

/-- WR.MCLK_HZ: no writable field; BUS_RO and nothing changed (R46). -/
def execWrMclkHz (_v : Word) (s : State) : Host.Outcome State Fault Refusal := refuseWrite .busRo s

/-- WR.N_SAMPLES: no writable field; BUS_RO and nothing changed (R46). -/
def execWrNSamples (_v : Word) (s : State) : Host.Outcome State Fault Refusal := refuseWrite .busRo s

/-- WR.CFG_ERR: no writable field; BUS_RO and nothing changed (R46). -/
def execWrCfgErr (_v : Word) (s : State) : Host.Outcome State Fault Refusal := refuseWrite .busRo s

/-- WR.CFG_SUM: no writable field; BUS_RO and nothing changed (R46). -/
def execWrCfgSum (_v : Word) (s : State) : Host.Outcome State Fault Refusal := refuseWrite .busRo s

/-- WR.PARAMS: no writable field; BUS_RO and nothing changed (R46). -/
def execWrParams (_v : Word) (s : State) : Host.Outcome State Fault Refusal := refuseWrite .busRo s

/-- WR.PARAM_TIMEOUT: no writable field; BUS_RO and nothing changed (R46). -/
def execWrParamTimeout (_v : Word) (s : State) : Host.Outcome State Fault Refusal := refuseWrite .busRo s

/-- WR.PARAM_SETTLE: no writable field; BUS_RO and nothing changed (R46). -/
def execWrParamSettle (_v : Word) (s : State) : Host.Outcome State Fault Refusal := refuseWrite .busRo s

/-- WR.RD_STAT: no writable field; BUS_RO and nothing changed (R46). -/
def execWrRdStat (_v : Word) (s : State) : Host.Outcome State Fault Refusal := refuseWrite .busRo s

/-- WR.RPTR: no writable field; BUS_RO and nothing changed (R46). -/
def execWrRptr (_v : Word) (s : State) : Host.Outcome State Fault Refusal := refuseWrite .busRo s

/-- WR.WR_STAT: no writable field; BUS_RO and nothing changed (R46). -/
def execWrWrStat (_v : Word) (s : State) : Host.Outcome State Fault Refusal := refuseWrite .busRo s

/-- WR.WPTR: no writable field; BUS_RO and nothing changed (R46). -/
def execWrWptr (_v : Word) (s : State) : Host.Outcome State Fault Refusal := refuseWrite .busRo s

/-- WR.PARAM_MCLK_MULT: no writable field; BUS_RO and nothing changed (R46). -/
def execWrParamMclkMult (_v : Word) (s : State) : Host.Outcome State Fault Refusal := refuseWrite .busRo s

/-- WR.CVT_FLT_OUT: no writable field; BUS_RO and nothing changed (R46). -/
def execWrCvtFltOut (_v : Word) (s : State) : Host.Outcome State Fault Refusal := refuseWrite .busRo s

/-- WR.CVT_FIX_OUT: no writable field; BUS_RO and nothing changed (R46). -/
def execWrCvtFixOut (_v : Word) (s : State) : Host.Outcome State Fault Refusal := refuseWrite .busRo s

end Sys2Proof.Machine
end

