-- ==== Sys2Proof/Machine/Windows.lean ====
section
/-! DEFINITION. The buffer windows: raw and float views of RBUF and WBUF (spec/10_state.md R44, spec/40_converter.md R144-R146,
spec/44_block_io.md R239-R245). -/

namespace Sys2Proof.Machine

/-- RD.RBUF: one received word, as stored (R241). -/
def execRdRbuf (i : Nat) (s : State) : Host.Outcome State Fault Refusal := readRbufWindow id i s

/-- RD.RBUF_F: one received word as a float (R144). -/
def execRdRbufF (i : Nat) (s : State) : Host.Outcome State Fault Refusal := readRbufWindow toFloat i s

/-- RD.WBUF: one word of the write buffer, as stored (R242). -/
def execRdWbuf (i : Nat) (s : State) : Host.Outcome State Fault Refusal := readWbufWindow id i s

/-- RD.WBUF_F: one word of the write buffer as a float (R146). -/
def execRdWbufF (i : Nat) (s : State) : Host.Outcome State Fault Refusal := readWbufWindow toFloat i s

/-- WR.RBUF: BUS_RO whatever the index (R240, R244). -/
def execWrRbuf (_i : Nat) (_v : Word) (s : State) : Host.Outcome State Fault Refusal := refuseWrite .busRo s

/-- WR.RBUF_F: BUS_RO whatever the index (R240, R244). -/
def execWrRbufF (_i : Nat) (_v : Word) (s : State) : Host.Outcome State Fault Refusal := refuseWrite .busRo s

/-- WR.WBUF: store the word unmodified (R245). -/
def execWrWbuf (i : Nat) (v : Word) (s : State) : Host.Outcome State Fault Refusal := writeWbufWindow i v s

/-- WR.WBUF_F: store the word that the float converts to (R145). -/
def execWrWbufF (i : Nat) (v : Word) (s : State) : Host.Outcome State Fault Refusal := writeWbufWindow i (toFixed v) s

end Sys2Proof.Machine
end

