-- ==== Sys2Proof/Machine/Dispatch.lean ====
section
/-! DEFINITION. What each instruction of the opcode table does: one arm for each constructor. -/

namespace Sys2Proof.Machine

def exec (i : Instr) (s : State) : Host.Outcome State Fault Refusal :=
  match i with
  | .nop => Sys2Proof.Machine.execNop s
  | .config => Sys2Proof.Machine.execConfig s
  | .enable powerOn => Sys2Proof.Machine.execEnable powerOn s
  | .readBlock => Sys2Proof.Machine.execReadBlock s
  | .writeBlock => Sys2Proof.Machine.execWriteBlock s
  | .rdCmd => Sys2Proof.Machine.execRdCmd s
  | .rdStatus => Sys2Proof.Machine.execRdStatus s
  | .rdErr => Sys2Proof.Machine.execRdErr s
  | .rdIrqPend => Sys2Proof.Machine.execRdIrqPend s
  | .rdIrqEn => Sys2Proof.Machine.execRdIrqEn s
  | .rdCfgRate => Sys2Proof.Machine.execRdCfgRate s
  | .rdCfgChan => Sys2Proof.Machine.execRdCfgChan s
  | .rdCfgBlock => Sys2Proof.Machine.execRdCfgBlock s
  | .rdCfgBus => Sys2Proof.Machine.execRdCfgBus s
  | .rdCfgMode => Sys2Proof.Machine.execRdCfgMode s
  | .rdMclkHz => Sys2Proof.Machine.execRdMclkHz s
  | .rdNSamples => Sys2Proof.Machine.execRdNSamples s
  | .rdCfgErr => Sys2Proof.Machine.execRdCfgErr s
  | .rdCfgSum => Sys2Proof.Machine.execRdCfgSum s
  | .rdParams => Sys2Proof.Machine.execRdParams s
  | .rdParamTimeout => Sys2Proof.Machine.execRdParamTimeout s
  | .rdParamSettle => Sys2Proof.Machine.execRdParamSettle s
  | .rdRdStat => Sys2Proof.Machine.execRdRdStat s
  | .rdRptr => Sys2Proof.Machine.execRdRptr s
  | .rdWrStat => Sys2Proof.Machine.execRdWrStat s
  | .rdWptr => Sys2Proof.Machine.execRdWptr s
  | .rdParamMclkMult => Sys2Proof.Machine.execRdParamMclkMult s
  | .rdCvtFixIn => Sys2Proof.Machine.execRdCvtFixIn s
  | .rdCvtFltOut => Sys2Proof.Machine.execRdCvtFltOut s
  | .rdCvtFltIn => Sys2Proof.Machine.execRdCvtFltIn s
  | .rdCvtFixOut => Sys2Proof.Machine.execRdCvtFixOut s
  | .wrCmd w => Sys2Proof.Machine.execWrCmd w s
  | .wrStatus v => Sys2Proof.Machine.execWrStatus v s
  | .wrErr v => Sys2Proof.Machine.execWrErr v s
  | .wrIrqPend v => Sys2Proof.Machine.execWrIrqPend v s
  | .wrIrqEn v => Sys2Proof.Machine.execWrIrqEn v s
  | .wrCfgRate v => Sys2Proof.Machine.execWrCfgRate v s
  | .wrCfgChan v => Sys2Proof.Machine.execWrCfgChan v s
  | .wrCfgBlock v => Sys2Proof.Machine.execWrCfgBlock v s
  | .wrCfgBus v => Sys2Proof.Machine.execWrCfgBus v s
  | .wrCfgMode v => Sys2Proof.Machine.execWrCfgMode v s
  | .wrMclkHz v => Sys2Proof.Machine.execWrMclkHz v s
  | .wrNSamples v => Sys2Proof.Machine.execWrNSamples v s
  | .wrCfgErr v => Sys2Proof.Machine.execWrCfgErr v s
  | .wrCfgSum v => Sys2Proof.Machine.execWrCfgSum v s
  | .wrParams v => Sys2Proof.Machine.execWrParams v s
  | .wrParamTimeout v => Sys2Proof.Machine.execWrParamTimeout v s
  | .wrParamSettle v => Sys2Proof.Machine.execWrParamSettle v s
  | .wrRdStat v => Sys2Proof.Machine.execWrRdStat v s
  | .wrRptr v => Sys2Proof.Machine.execWrRptr v s
  | .wrWrStat v => Sys2Proof.Machine.execWrWrStat v s
  | .wrWptr v => Sys2Proof.Machine.execWrWptr v s
  | .wrParamMclkMult v => Sys2Proof.Machine.execWrParamMclkMult v s
  | .wrCvtFixIn v => Sys2Proof.Machine.execWrCvtFixIn v s
  | .wrCvtFltOut v => Sys2Proof.Machine.execWrCvtFltOut v s
  | .wrCvtFltIn v => Sys2Proof.Machine.execWrCvtFltIn v s
  | .wrCvtFixOut v => Sys2Proof.Machine.execWrCvtFixOut v s
  | .rdRbuf k => Sys2Proof.Machine.execRdRbuf k s
  | .rdRbufF k => Sys2Proof.Machine.execRdRbufF k s
  | .rdWbuf k => Sys2Proof.Machine.execRdWbuf k s
  | .rdWbufF k => Sys2Proof.Machine.execRdWbufF k s
  | .wrRbuf k v => Sys2Proof.Machine.execWrRbuf k v s
  | .wrRbufF k v => Sys2Proof.Machine.execWrRbufF k v s
  | .wrWbuf k v => Sys2Proof.Machine.execWrWbuf k v s
  | .wrWbufF k v => Sys2Proof.Machine.execWrWbufF k v s

end Sys2Proof.Machine
end

