-- ==== Sys2Proof/Machine/HostProgram.lean ====
section
/-! DEFINITION. The host agent: a host program in the notation of spec/30_encoding.md R115, its pseudo-instructions, and what the
host and the external agents drive in one cycle (spec/70_reset_and_hazards.md R295, R296). -/

namespace Sys2Proof.Machine

/-- What the host side drives in one cycle: rst_n, and the access where bus_valid = 1 (R47). -/
structure BusIn where
  rstN : Bool
  access : Option Access
  deriving DecidableEq, Repr

/-- `WR32 off, v` (R115). -/
def wr32 (off : BitVec 20) (v : Word) : Access := { write := true, size := 2#2, addr := off, wdata := v }

/-- `RD32 off` (R115). -/
def rd32 (off : BitVec 20) : Access := { write := false, size := 2#2, addr := off, wdata := 0#32 }

/-- The program from its next operation that takes a cycle: `IDLE 0` takes none. -/
def skipEmpty (p : List HostOp) : List HostOp :=
  match p with
  | .idle 0 :: rest => skipEmpty rest
  | p => p

/-- What the host drives in this cycle; a program that has ended leaves the bus idle (R297). -/
def busNow (p : List HostOp) : BusIn :=
  match skipEmpty p with
  | [] => { rstN := true, access := none }
  | .access a :: _ => { rstN := true, access := some a }
  | .poll off _ _ :: _ => { rstN := true, access := some (rd32 off) }
  | .idle _ :: _ => { rstN := true, access := none }
  | .reset a :: _ => { rstN := false, access := a }

/-- The host program after a cycle in which bus_rdata carried `rdata`: a POLL is repeated until (read & mask) = value. -/
def hostAfter (p : List HostOp) (rdata : Word) : List HostOp :=
  match skipEmpty p with
  | [] => []
  | .access _ :: rest => rest
  | .poll off mask value :: rest => if rdata &&& mask = value then rest else .poll off mask value :: rest
  | .idle n :: rest => if n ≤ 1 then rest else .idle (n - 1) :: rest
  | .reset _ :: rest => rest

/-- The host has issued its last access (R297): only idle waits are left of its program. A reset still to come is none. -/
def lastAccessIssued (p : List HostOp) : Bool :=
  match p with
  | [] => true
  | .idle _ :: rest => lastAccessIssued rest
  | .access _ :: _ | .poll _ _ _ :: _ | .reset _ :: _ => false

/-- What the external agents drive in this cycle: the next entry of `State.agents`, or free values where the list has
ended (R296, log 2). -/
def agentsNow (s : State) : AgentIn :=
  match s.agents with
  | a :: _ => a
  | [] =>
    { rxValid := Config.freeRxValid s.cycle
      rxData := Config.freeRxData s.cycle
      rxErr := Config.freeRxErr s.cycle
      txReady := Config.freeTxReady s.cycle
      txErr := Config.freeTxErr s.cycle
      perAck := Config.freePerAck s.cycle
      perStatus := Config.freePerStatus s.cycle }

/-- The pseudo-instructions of R115. -/
inductive Pseudo where
  | nop
  | config
  | enable (powerOn : Bool)
  | readBlock
  | writeBlock
  | waitIdle
  | clrErr
  | clrIrq
  | toFloat (v : Word)
  | toFixed (v : Word)
  deriving DecidableEq, Repr

/-- The expansions of R115. -/
def expandPseudo (p : Pseudo) : List HostOp :=
  match p with
  | .nop => [.access (wr32 0x00000#20 0x00000000#32)]
  | .config => [.access (wr32 0x00000#20 0x00000001#32)]
  | .enable false => [.access (wr32 0x00000#20 0x00000002#32)]
  | .enable true => [.access (wr32 0x00000#20 0x00000102#32)]
  | .readBlock => [.access (wr32 0x00000#20 0x00000003#32)]
  | .writeBlock => [.access (wr32 0x00000#20 0x00000004#32)]
  | .waitIdle => [.poll 0x00004#20 0x0000001C#32 0x00000000#32]
  | .clrErr => [.access (wr32 0x00008#20 0x000003FF#32)]
  | .clrIrq => [.access (wr32 0x0000C#20 0x0000000F#32)]
  | .toFloat v => [.access (wr32 0x00070#20 v), .access (rd32 0x00074#20)]
  | .toFixed v => [.access (wr32 0x00078#20 v), .access (rd32 0x0007C#20)]

end Sys2Proof.Machine
end

