-- ==== Sys2Proof/Machine/Ports.lean ====
section
/-! DEFINITION. The output ports (spec/10_state.md R47): functions of the state at the start of a cycle (spec/70_reset_and_hazards.md
R293 step 0). -/

namespace Sys2Proof.Machine

/-- per_stage of an external stage while its request is outstanding (R185). -/
def perStageOf (c : CfgStage) : BitVec 3 :=
  match c with
  | .install => 1
  | .pins => 2
  | .rate => 3
  | .zero => 4
  | .idle | .validate | .powerDown | .mclk | .clkRoute | .settle | .alloc | .finish => 0

/-- INSTALL's argument: BUS_ID | MASTER<<8 | 0xF<<9 | 24<<16 | 32<<24 (R186). -/
def installArg (busId : BitVec 8) (master : Bool) : Word :=
  32#8 ++ 24#8 ++ 0#3 ++ 1#1 ++ 1#1 ++ 1#1 ++ 1#1 ++ BitVec.ofBool master ++ busId

/-- per_arg of an external stage (R186). -/
def perArgOf (c : CfgStage) (s : State) : Word :=
  match c with
  | .install => installArg s.cfgBus s.cfgMaster
  | .pins => s.cfgBus.setWidth 32
  | .rate => s.cfgRate
  | .zero => 0#32
  | .idle | .validate | .powerDown | .mclk | .clkRoute | .settle | .alloc | .finish => 0#32

/-- The channel of the word a pointer names, as rx_ch and tx_ch carry it (R228, R232). -/
def channelPort (ptr : Word) (s : State) : BitVec 8 := BitVec.ofNat 8 (channelOf s.cfgChan.toNat ptr.toNat)

/-- The output ports of the cycle that starts in state `s` (R47). -/
def outputs (s : State) : PortsOut where
  rxReady := s.rdBusy
  rxCh := if s.rdBusy then channelPort s.rptr s else 0#8
  txValid := s.wrBusy
  txData := if s.wrBusy then wbufWord s s.wptr.toNat else 0#32
  txCh := if s.wrBusy then channelPort s.wptr s else 0#8
  perReq := s.req
  perStage := if s.req then perStageOf s.cfgStage else 0#3
  perArg := if s.req then perArgOf s.cfgStage s else 0#32
  pwrEn := s.pwr
  mclkEn := s.mclkEn
  mclkHz := s.mclkHz
  irq := irqLine s

end Sys2Proof.Machine
end

