-- ==== Sys2Proof/Machine/Sequencer.lean ====
section
/-! DEFINITION. The CONFIG sequencer: one stage step, step 5 of a cycle (spec/42_setup.md R181-R196). -/

namespace Sys2Proof.Machine

/-- The stages that make a request of the external peripheral (R185). -/
def isExternal (c : CfgStage) : Bool :=
  match c with
  | .install | .pins | .rate | .zero => true
  | .idle | .validate | .powerDown | .mclk | .clkRoute | .settle | .alloc | .finish => false

/-- VALIDATE: clamp the bus instance silently, check layout and size (R182). -/
def stageValidate (s : State) : State :=
  let c := s.cfgChan.toNat
  let b := s.cfgBlock.toNat
  let e := if c ≠ wireChannels then setBit s.cfgErr cfgErrLayout else s.cfgErr
  { s with
    cfgBus := if s.cfgBus.toNat > s.params.numBus - 1 then BitVec.ofNat 8 (s.params.numBus - 1) else s.cfgBus
    cfgErr := if b = 0 ∨ c * b > s.params.maxSamples then setBit e cfgErrSize else e
    cfgStage := .powerDown }

/-- POWER_DOWN: the power line goes inactive (R183). -/
def stagePowerDown (s : State) : State := { s with pwr := false, cfgStage := .mclk }

/-- MCLK: the exact product CFG_RATE x MCLK_MULT, which must be 1 .. 2^32 - 1; INSTALL's request rises (R184). -/
def stageMclk (s : State) : State :=
  let p := s.cfgRate.toNat * s.params.mclkMult
  let t := if p = 0 ∨ p > 2 ^ 32 - 1
    then { s with cfgErr := setBit s.cfgErr cfgErrClkRange, mclkHz := 0#32 }
    else { s with mclkHz := BitVec.ofNat 32 p }
  { t with cfgStage := .install, tmr := 0#32, req := true }

/-- An external stage with CFG_ERR bit `e` goes on to `next`: TMR restarts and REQ follows the next stage (R185). -/
def leaveExternal (next : CfgStage) (s : State) : State :=
  { s with tmr := 0#32, cfgStage := next, req := isExternal next }

/-- One cycle of an external stage with CFG_ERR bit `e` and successor `next` (R185): an acknowledge completes it, else the
timeout ends it, else it stays. -/
def stageExternal (e : Nat) (next : CfgStage) (a : AgentIn) (s : State) : State :=
  if a.perAck then
    leaveExternal next
      { s with
        cfgSum := s.cfgSum + a.perStatus
        cfgErr := if a.perStatus ≠ 0#32 then setBit s.cfgErr e else s.cfgErr }
  else if s.params.timeout ≤ (s.tmr + 1#32).toNat then
    leaveExternal next { s with cfgErr := setBit (setBit s.cfgErr e) cfgErrStageTimeout }
  else { s with tmr := s.tmr + 1#32 }

/-- CLK_ROUTE: route the master clock in master mode; SETTLE is skipped where SETTLE_CYCLES = 0 (R191). -/
def stageClkRoute (s : State) : State :=
  { s with mclkEn := s.cfgMaster, tmr := 0#32, cfgStage := if s.params.settle = 0 then .alloc else .settle }

/-- SETTLE: SETTLE_CYCLES cycles, in both modes (R192). -/
def stageSettle (s : State) : State :=
  if s.params.settle ≤ (s.tmr + 1#32).toNat then { s with tmr := 0#32, cfgStage := .alloc }
  else { s with tmr := s.tmr + 1#32 }

/-- ALLOC: every word of both buffers becomes 0 (R193). -/
def stageAlloc (s : State) : State := { s with rbuf := zeroed, wbuf := zeroed, cfgStage := .finish }

/-- FINISH: success iff CFG_ERR = 0; CFG_DONE is set, and wins over a same-cycle W1C (R196). -/
def stageFinish (s : State) : State :=
  let t := if s.cfgErr = 0#8
    then { s with nActive := BitVec.ofNat 15 (s.cfgChan.toNat * s.cfgBlock.toNat), life := .configured }
    else { s with nActive := 0#15 }
  { t with cfgBusy := false, cfgStage := .idle, tmr := 0#32, irqPend := setBit t.irqPend irqCfgDone }

/-- Step 5 of a cycle: the step of the stage `c` that CFG_STAGE held at the start of the cycle (R181). -/
def stageStep (c : CfgStage) (a : AgentIn) (s : State) : State :=
  match c with
  | .idle => s
  | .validate => stageValidate s
  | .powerDown => stagePowerDown s
  | .mclk => stageMclk s
  | .install => stageExternal cfgErrInstall .pins a s
  | .pins => stageExternal cfgErrPins .rate a s
  | .rate => stageExternal cfgErrRate .zero a s
  | .zero => stageExternal cfgErrZero .clkRoute a s
  | .clkRoute => stageClkRoute s
  | .settle => stageSettle s
  | .alloc => stageAlloc s
  | .finish => stageFinish s

end Sys2Proof.Machine
end

