-- ==== Sys2Proof/Machine/Transfer.lean ====
section
/-! DEFINITION. The transfer in flight: the stream handshakes and its end (spec/44_block_io.md R229-R235), steps 2 and 3 of a cycle
(spec/70_reset_and_hazards.md R293). The IRQ_PEND bits that an end sets are registered by Machine/Cycle.lean (log 8). -/

namespace Sys2Proof.Machine

/-- Step 2 for a read: the RX error input, then the RX store, unmodified (R229, R231). -/
def rxHandshake (a : AgentIn) (s : State) : State :=
  let t := if a.rxErr then { s with rdStat := setBit s.rdStat statPerErr } else s
  if a.rxValid then { storeRbuf t.rptr.toNat a.rxData t with rptr := t.rptr + 1#32 } else t

/-- Step 3 for a read: completion, else one more busy cycle or the timeout (R230). -/
def endRead (s : State) : State :=
  if s.rptr.toNat = s.nActive.toNat then
    { s with rdBusy := false, rdStat := rdStatComplete s.rdStat, tmr := 0#32 }
  else if s.params.timeout ≤ (s.tmr + 1#32).toNat then
    { s with rdBusy := false, rdStat := rdStatTimeout s.rdStat, tmr := 0#32 }
  else { s with tmr := s.tmr + 1#32 }

/-- Step 2 for a write: the TX error input, then the TX advance (R233, R235). The sink takes the word that tx_data
carries in this cycle (R232, Machine/Ports.lean). -/
def txHandshake (a : AgentIn) (s : State) : State :=
  let t := if a.txErr then { s with wrStat := setBit s.wrStat statPerErr } else s
  if a.txReady then { t with wptr := t.wptr + 1#32 } else t

/-- Step 3 for a write: completion, else one more busy cycle or the timeout (R234). -/
def endWrite (s : State) : State :=
  if s.wptr.toNat = s.nActive.toNat then
    { s with wrBusy := false, wrStat := wrStatComplete s.wrStat, tmr := 0#32 }
  else if s.params.timeout ≤ (s.tmr + 1#32).toNat then
    { s with wrBusy := false, wrStat := wrStatTimeout s.wrStat (decide (s.wptr = 0#32)), tmr := 0#32 }
  else { s with tmr := s.tmr + 1#32 }

/-- Steps 2 and 3 of a cycle: what the transfer that is busy at the start of the cycle does. At most one is (R49). -/
def transferStep (a : AgentIn) (s : State) : State :=
  let t := if s.rdBusy then endRead (rxHandshake a s) else s
  if t.wrBusy then endWrite (txHandshake a t) else t

/-- The IRQ_PEND bits that the ends of transfers between `before` and `after` set: RD_DONE or WR_DONE exactly when the busy
bit falls (R230, R234). -/
def transferEvents (before after : State) : BitVec 4 :=
  putBit (putBit 0#4 irqRdDone (before.rdBusy && !after.rdBusy)) irqWrDone (before.wrBusy && !after.wrBusy)

end Sys2Proof.Machine
end

