-- ==== Sys2Proof/Machine/Cycle.lean ====
section
/-! DEFINITION. One clock cycle: reset (spec/70_reset_and_hazards.md R290) or the five steps of R293 in their order. -/

namespace Sys2Proof.Machine

/-- An access that decodes to no instruction: it is not performed, and raises one error (R71, R72, R263). -/
def undecodedAccess (c : ErrCause) (a : Access) (s : State) : Host.Outcome State Fault Refusal :=
  if a.write then refuseWrite c s else refuseRead c s

/-- The host access of a cycle: decode it and do it; a misaligned or unmapped one is refused by its ERR bit (R263). No
host access decodes to the name of the third case, which is the command decoder's own. -/
def hostAccess (a : Access) (s : State) : Host.Outcome State Fault Refusal :=
  match decodeAccess a with
  | .ok i => exec i s
  | .error .misaligned => undecodedAccess .busAlign a s
  | .error .unmapped => undecodedAccess .busUnmapped a s
  | .error .illegalCommand => undecodedAccess .cmdIllegal a s

/-- A cycle without an access: bus_rdata = 0 and bus_err = 0 (R70). -/
def idleBus (s : State) : State := respondRead 0#32 s

/-- IRQ_PEND takes the bits that events of this cycle set, after the host write: set wins (R26, R293). -/
def registerEvents (ev : BitVec 4) (s : State) : State := { s with irqPend := s.irqPend ||| ev }

/-- Steps 2 and 3, with the IRQ_PEND bits registered. -/
def transferAndRegister (a : AgentIn) (s : State) : State :=
  registerEvents (transferEvents s (transferStep a s)) (transferStep a s)

/-- Steps 1 to 5 of the cycle that starts in state `s` (R293). A read sees the state at the start of the cycle; a write is
applied after the transfer's step and before the step of the stage that CFG_STAGE held at the start. -/
def cycleBody (access : Option Access) (a : AgentIn) (s : State) : Host.Outcome State Fault Refusal :=
  match access with
  | none => .next (stageStep s.cfgStage a (transferAndRegister a (idleBus s)))
  | some acc =>
    if acc.write then
      let t := transferStep a s
      andThen (hostAccess acc t) (fun u => stageStep s.cfgStage a (registerEvents (transferEvents s t) u))
    else andThen (hostAccess acc s) (fun u => stageStep s.cfgStage a (transferAndRegister a u))

/-- bus_rdata in a cycle with rst_n = 0: 0 for a read (R290) and with no access (spec/20_memory.md R70); for a write neither
rule gives a value, so it is a free value, as in every other write cycle (log 6). -/
def resetRdata (access : Option Access) (s : State) : Word :=
  match access with
  | none => 0#32
  | some acc => if acc.write then Config.freeBusRdata s.cycle else 0#32

/-- A cycle with rst_n = 0: the access is ignored with bus_err = 0, nothing else of the cycle happens, every register and
hidden state takes its reset value; the parameters are constant and the buffers are not cleared (R290, R291, log 4). -/
def resetCycle (access : Option Access) (s : State) : State :=
  { State.reset with
    params := s.params, rbuf := s.rbuf, wbuf := s.wbuf, busRdata := resetRdata access s,
    cycle := s.cycle, host := s.host, agents := s.agents }

/-- The end of the cycle that started in `s` and ends in `t`: the ports carried what `s` gives (R293 step 0, R290), and
the host and the agents go on. -/
def closeCycle (s t : State) : State :=
  { t with
    out := outputs s, cycle := s.cycle + 1, host := hostAfter s.host t.busRdata, agents := s.agents.tail }

/-- One clock cycle, the host side driving `h` and the external agents `a`. -/
def runCycle (h : BusIn) (a : AgentIn) (s : State) : Host.Outcome State Fault Refusal :=
  if h.rstN then andThen (cycleBody h.access a s) (closeCycle s) else .next (closeCycle s (resetCycle h.access s))

/-- One clock cycle with what the host program and the agents drive in it. -/
def runNextCycle (s : State) : Host.Outcome State Fault Refusal := runCycle (busNow s.host) (agentsNow s) s

/-- Load an access as the next one of the host program. -/
def loadAccess (a : Access) (s : State) : State := { s with host := .access a :: s.host }

end Sys2Proof.Machine
end

