-- ==== Sys2Proof/Machine/Step.lean ====
section
/-! DEFINITION. One step of the machine is one clock cycle (spec/70_reset_and_hazards.md R293). -/

namespace Sys2Proof.Machine

/-- One step: the next clock cycle. -/
def step : State → Host.Outcome State Fault Refusal := runNextCycle

/-- The state with the opcode-table row's instruction placed where the next step takes it: the next access of the host
program (log 3, log 13). Bits that are no encoded form change nothing. -/
def State.withFetchWord (s : State) (nbits w : Nat) : State :=
  match encodedOfTable nbits w with
  | none => s
  | some e => loadAccess (presentEncoded e) s

end Sys2Proof.Machine
end

