-- ==== Sys2Proof/Safety.lean ====
section
/-! DEFINITION. The terms in which claims are stated: the invariants of the block (spec/10_state.md R49 and the rules that bound its
hidden state), the end of a run and a clean run (spec/70_reset_and_hazards.md R297), and the two ways an access
can leave the bus. -/

namespace Sys2Proof.Machine

/-! ### What an access leaves -/

/-- `s` after an access that raised nothing, bus_rdata carrying `d`. -/
def answered (d : Word) (s : State) : State := { s with busRdata := d, busErr := false }

/-- `s` after an access that raised the ERR bits of `bit`, with IRQ_PEND.ERR and bus_err (R261), bus_rdata carrying `d`. -/
def recorded (bit : BitVec 10) (d : Word) (s : State) : State :=
  { s with err := s.err ||| bit, irqPend := s.irqPend ||| 0x8#4, busRdata := d, busErr := true }

/-- A cycle in which the host presents nothing and rst_n = 1. -/
def quietBus : BusIn := { rstN := true, access := none }

/-- Cycles without a host access, one for each entry of the list, the agents driving that entry. -/
def quietRun (inputs : List AgentIn) (s : State) : Host.Outcome State Fault Refusal :=
  match inputs with
  | [] => .next s
  | a :: rest =>
    match runCycle quietBus a s with
    | .next t => quietRun rest t
    | .fault r => .fault r
    | .refused r => .refused r

/-! ### Groups of instructions -/

/-- The register reads of the opcode table. -/
def registerReads : List Instr :=
  [.rdCmd, .rdStatus, .rdErr, .rdIrqPend, .rdIrqEn, .rdCfgRate, .rdCfgChan, .rdCfgBlock, .rdCfgBus, .rdCfgMode,
   .rdMclkHz, .rdNSamples, .rdCfgErr, .rdCfgSum, .rdParams, .rdParamTimeout, .rdParamSettle, .rdRdStat, .rdRptr,
   .rdWrStat, .rdWptr, .rdParamMclkMult, .rdCvtFixIn, .rdCvtFltOut, .rdCvtFltIn, .rdCvtFixOut]

/-- The reads of the buffer windows at index `i`. -/
def windowReads (i : Nat) : List Instr := [.rdRbuf i, .rdRbufF i, .rdWbuf i, .rdWbufF i]

/-- The writes of registers with no writable field (R46). -/
def readOnlyWrites (v : Word) : List Instr :=
  [.wrStatus v, .wrMclkHz v, .wrNSamples v, .wrCfgErr v, .wrCfgSum v, .wrParams v, .wrParamTimeout v,
   .wrParamSettle v, .wrRdStat v, .wrRptr v, .wrWrStat v, .wrWptr v, .wrParamMclkMult v, .wrCvtFltOut v,
   .wrCvtFixOut v]

/-- The writes of the configuration registers (R21). -/
def configWrites (v : Word) : List Instr :=
  [.wrCfgRate v, .wrCfgChan v, .wrCfgBlock v, .wrCfgBus v, .wrCfgMode v]

/-- The instruction that the host presents in a cycle, if any. -/
def presentedInstr (h : BusIn) : Option Instr :=
  match h.access with
  | none => none
  | some acc =>
    match decodeAccess acc with
    | .ok i => some i
    | .error _ => none

/-- The command that the host presents in a cycle, if any: a legal word written to CMD (R160). -/
def presentedCommand (h : BusIn) : Option Command :=
  match h.access with
  | none => none
  | some acc =>
    match decodeAccess acc with
    | .ok (.wrCmd w) =>
      match decodeCommand w with
      | .ok c => some c
      | .error _ => none
    | _ => none

/-! ### The end of a run (R297) -/

/-- No command is in flight. -/
abbrev Idle (s : State) : Prop := s.cfgBusy = false ∧ s.rdBusy = false ∧ s.wrBusy = false

/-- The run is over: the host has issued its last access and no command is in flight. -/
abbrev RunOver (s : State) : Prop := lastAccessIssued s.host = true ∧ Idle s

/-- The run is over and broke no host convention. -/
abbrev CleanEnd (s : State) : Prop := RunOver s ∧ s.err = 0#10

/-- The word that a read answers in state `s`. -/
def readValue (i : Instr) (s : State) : Word :=
  match exec i s with
  | .next t => t.busRdata
  | .fault _ | .refused _ => 0#32

/-- The observable final state: the registers, and the words 0 .. N_ACTIVE - 1 of RBUF and of WBUF. -/
def observable (s : State) : List Word × List Word × List Word :=
  (registerReads.map (fun i => readValue i s), (List.range s.nActive.toNat).map (rbufWord s),
    (List.range s.nActive.toNat).map (wbufWord s))

/-! ### The invariants -/

/-- R49 (a): at most one of CFG_BUSY, RD_BUSY, WR_BUSY is 1. -/
abbrev OneBusy (s : State) : Prop :=
  (s.cfgBusy && s.rdBusy) = false ∧ (s.cfgBusy && s.wrBusy) = false ∧ (s.rdBusy && s.wrBusy) = false

/-- R49 (b): N_ACTIVE = 0 iff STATE = UNINIT. -/
abbrev ActiveIffConfigured (s : State) : Prop := s.nActive = 0#15 ↔ s.life = .uninit

/-- R49 (c): outside UNINIT the configuration is one that CONFIG accepts, and N_ACTIVE is its size. -/
abbrev SizedBlock (s : State) : Prop :=
  s.life ≠ .uninit →
    s.cfgChan = 2#8 ∧ 1 ≤ s.cfgBlock.toNat ∧
    s.nActive.toNat = s.cfgChan.toNat * s.cfgBlock.toNat ∧ s.nActive.toNat ≤ s.params.maxSamples

/-- R49 (d): the pointers stay within the block. -/
abbrev PointersInBlock (s : State) : Prop :=
  s.rptr.toNat ≤ s.nActive.toNat ∧ s.wptr.toNat ≤ s.nActive.toNat

/-- R49 (e): a transfer is in flight in RUNNING or POWERED_OFF only. -/
abbrev TransferNeedsConfigured (s : State) : Prop :=
  (s.rdBusy || s.wrBusy) = true → s.life = .running ∨ s.life = .poweredOff

/-- R49 (f): CONFIG runs in UNINIT. -/
abbrev ConfigInUninit (s : State) : Prop := s.cfgBusy = true → s.life = .uninit

/-- R49 (g), R168: RUNNING has the codec powered, POWERED_OFF has not. -/
abbrev LifeMatchesPower (s : State) : Prop :=
  (s.life = .running → s.pwr = true) ∧ (s.life = .poweredOff → s.pwr = false)

/-- R45: CFG_STAGE ≠ IDLE exactly when CFG_BUSY = 1. -/
abbrev StageMatchesBusy (s : State) : Prop := s.cfgStage ≠ .idle ↔ s.cfgBusy = true

/-- R185: REQ = 1 exactly in the external stages. -/
abbrev ReqMatchesStage (s : State) : Prop := s.req = isExternal s.cfgStage

/-- R229, R233: the pointer of the transfer in flight is below N at the start of every busy cycle. -/
abbrev PointerBelowEnd (s : State) : Prop :=
  (s.rdBusy = true → s.rptr.toNat < s.nActive.toNat) ∧ (s.wrBusy = true → s.wptr.toNat < s.nActive.toNat)

/-- R270: TMR stops at TIMEOUT_CYCLES or SETTLE_CYCLES. -/
abbrev TimerBounded (s : State) : Prop :=
  ((s.rdBusy || s.wrBusy) = true → s.tmr.toNat < s.params.timeout) ∧
  (isExternal s.cfgStage = true → s.tmr.toNat < s.params.timeout) ∧
  (s.cfgStage = .settle → s.tmr.toNat < s.params.settle)

/-- R182: from the end of VALIDATE to FINISH, CFG_ERR tells whether the layout and the size are legal. -/
abbrev ValidateRecorded (s : State) : Prop :=
  4 ≤ (stageCode s.cfgStage).toNat ∨ s.cfgStage = .powerDown ∨ s.cfgStage = .mclk →
    (s.cfgErr.getLsbD 0 = false → s.cfgChan = 2#8) ∧
    (s.cfgErr.getLsbD 1 = false →
      1 ≤ s.cfgBlock.toNat ∧ s.cfgChan.toNat * s.cfgBlock.toNat ≤ s.params.maxSamples)

/-- R183, R168: from the end of POWER_DOWN to the end of CONFIG, PWR = 0. -/
abbrev PoweredDownInConfig (s : State) : Prop := 3 ≤ (stageCode s.cfgStage).toNat → s.pwr = false

/-- R196: CFG_ERR = 0 implies CFG_SUM = 0, and CFG_ERR = 0 outside UNINIT. -/
abbrev ConfigResult (s : State) : Prop :=
  (s.cfgErr = 0#8 → s.cfgSum = 0#32) ∧ (s.life ≠ .uninit → s.cfgErr = 0#8)

/-- R246: the values that RD_STAT and WR_STAT take while a transfer runs and when none does. -/
abbrev StatusShape (s : State) : Prop :=
  (s.rdBusy = true → s.rdStat ∈ [0x00#5, 0x08#5]) ∧
  (s.rdBusy = false → s.rdStat ∈ [0x00#5, 0x01#5, 0x19#5, 0x17#5, 0x1F#5]) ∧
  (s.wrBusy = true → s.wrStat ∈ [0x00#6, 0x08#6]) ∧
  (s.wrBusy = false → s.wrStat ∈ [0x00#6, 0x01#6, 0x19#6, 0x07#6, 0x1F#6, 0x37#6, 0x3F#6])

/-- The buffers are in canonical form. -/
abbrev BuffersCanonical (s : State) : Prop := Memory.wf s.rbuf = true ∧ Memory.wf s.wbuf = true

/-- R43: no buffer holds a byte beyond its MAX_SAMPLES words. -/
abbrev BuffersFit (s : State) : Prop :=
  (∀ c ∈ s.rbuf, c.1 < 4 * s.params.maxSamples) ∧ (∀ c ∈ s.wbuf, c.1 < 4 * s.params.maxSamples)

/-- The invariant of the block: R49 with the bounds of its hidden state. -/
structure Inv (s : State) : Prop where
  legal : s.params.legal
  oneBusy : OneBusy s
  activeIffConfigured : ActiveIffConfigured s
  sizedBlock : SizedBlock s
  pointersInBlock : PointersInBlock s
  transferNeedsConfigured : TransferNeedsConfigured s
  configInUninit : ConfigInUninit s
  lifeMatchesPower : LifeMatchesPower s
  stageMatchesBusy : StageMatchesBusy s
  reqMatchesStage : ReqMatchesStage s
  pointerBelowEnd : PointerBelowEnd s
  timerBounded : TimerBounded s
  validateRecorded : ValidateRecorded s
  poweredDownInConfig : PoweredDownInConfig s
  configResult : ConfigResult s
  statusShape : StatusShape s
  buffersCanonical : BuffersCanonical s
  buffersFit : BuffersFit s

end Sys2Proof.Machine
end

