-- ==== Sys2Proof/Certificates/Slice0/Obligations.lean ====
section
/-! DEFINITION. The statements for the provers: what the numbered rules of spec/ say of the block. In them `answered d s` is `s`
after an access that raised nothing and `recorded e d s` is `s` after one that raised the ERR bits `e` (Safety.lean);
`d` is what bus_rdata carries, which is any word in a write (log 6). -/

open Sys2Proof Sys2Proof.Machine

/-! ### Encoding -/

/-- R104-R108: words written out from the encodings decode to what they stand for. -/
def Obligations.SpecWordsDecode : Prop :=
  decodeCommand 0x00000102#32 = .ok (.enable true) ∧
  decodeCommand 0x00000004#32 = .ok .writeBlock ∧
  decodeKey 0x000004#21 0#32 = .ok .rdStatus ∧
  decodeKey 0x10000C#21 0x00000002#32 = .ok (.wrIrqPend 0x00000002#32) ∧
  decodeKey 0x0207FC#21 0#32 = .ok (.rdRbufF 511) ∧
  decodeKey 0x14000C#21 0xBF000000#32 = .ok (.wrWbufF 3 0xBF000000#32)

/-- R106: the six legal command words are the only ones, and they are those of the decoder's formula. -/
def Obligations.CommandWordsAreTheSixLegalOnes : Prop :=
  (decodeCommand 0x00000000#32 = .ok .nop ∧ decodeCommand 0x00000001#32 = .ok .config ∧
    decodeCommand 0x00000002#32 = .ok (.enable false) ∧ decodeCommand 0x00000102#32 = .ok (.enable true) ∧
    decodeCommand 0x00000003#32 = .ok .readBlock ∧ decodeCommand 0x00000004#32 = .ok .writeBlock) ∧
  (∀ w : Word,
    w ∉ [0x00000000#32, 0x00000001#32, 0x00000002#32, 0x00000102#32, 0x00000003#32, 0x00000004#32] →
    decodeCommand w = .error .illegalCommand) ∧
  (∀ w : Word,
    (∃ c, decodeCommand w = .ok c) ↔
      (w &&& 0xFFFFFEF0#32 = 0#32 ∧ (w.extractLsb' 0 4).toNat ≤ 4 ∧
        (w.getLsbD 8 = false ∨ w.extractLsb' 0 4 = 2#4)))

/-- R100-R108: decoding the encoding of a well-formed instruction gives it back, at every operand. -/
def Obligations.DecodeEncodeRoundTrip : Prop :=
  ∀ i : Instr, i.WellFormed = true → decodeEncoded (encode i) = .ok i

/-- R104, R108: a key decodes to one instruction only, whose encoding is that key (with the write data of a write). -/
def Obligations.DecodedKeyEncodesBack : Prop :=
  ∀ (key : BitVec 21) (v : Word) (i : Instr), decodeKey key v = .ok i →
    i.WellFormed = true ∧ encode i = .access key (if key.getLsbD 20 then v else 0#32)

/-- R71: an access that is not a naturally aligned word raises BUS_ALIGN and does nothing else. -/
def Obligations.MisalignedAccessRaisesBusAlign : Prop :=
  ∀ (acc : Access) (s : State), acc.size ≠ 2#2 ∨ acc.addr.extractLsb' 0 2 ≠ 0#2 →
    (acc.write = false → hostAccess acc s = .next (recorded 0x008#10 0#32 s)) ∧
    (acc.write = true → ∃ d, hostAccess acc s = .next (recorded 0x008#10 d s))

/-- R72: the unmapped offsets are the four listed ranges; an aligned word access to one raises BUS_UNMAPPED and does nothing
else; every other aligned word access decodes, so that it is done. -/
def Obligations.UnmappedOffsetsRaiseBusUnmapped : Prop :=
  ∀ (acc : Access) (s : State), acc.size = 2#2 → acc.addr.extractLsb' 0 2 = 0#2 →
    ((0x014 ≤ acc.addr.toNat ∧ acc.addr.toNat ≤ 0x01C ∨ 0x064 ≤ acc.addr.toNat ∧ acc.addr.toNat ≤ 0x06C ∨
        0x080 ≤ acc.addr.toNat ∧ acc.addr.toNat ≤ 0x0FFFF ∨ 0x50000 ≤ acc.addr.toNat ∧ acc.addr.toNat ≤ 0xFFFFF) →
      (acc.write = false → hostAccess acc s = .next (recorded 0x010#10 0#32 s)) ∧
      (acc.write = true → ∃ d, hostAccess acc s = .next (recorded 0x010#10 d s))) ∧
    (¬ (0x014 ≤ acc.addr.toNat ∧ acc.addr.toNat ≤ 0x01C ∨ 0x064 ≤ acc.addr.toNat ∧ acc.addr.toNat ≤ 0x06C ∨
        0x080 ≤ acc.addr.toNat ∧ acc.addr.toNat ≤ 0x0FFFF ∨ 0x50000 ≤ acc.addr.toNat ∧ acc.addr.toNat ≤ 0xFFFFF) →
      ∃ i, decodeAccess acc = .ok i ∧ hostAccess acc s = exec i s)

/-! ### Reads -/

/-- R21, R22, R25-R36, R38-R42: a read of a register that is stored answers it, reserved bits 0. -/
def Obligations.RegisterReadsAnswerTheRegister : Prop :=
  ∀ s : State, ∀ p ∈
    [(Instr.rdCmd, 0#32), (.rdErr, s.err.setWidth 32), (.rdIrqPend, s.irqPend.setWidth 32),
     (.rdIrqEn, s.irqEn.setWidth 32), (.rdCfgRate, s.cfgRate), (.rdCfgChan, s.cfgChan.setWidth 32),
     (.rdCfgBlock, s.cfgBlock.setWidth 32), (.rdCfgBus, s.cfgBus.setWidth 32),
     (.rdCfgMode, if s.cfgMaster then 0x0F201801#32 else 0x0F201800#32), (.rdMclkHz, s.mclkHz),
     (.rdNSamples, s.nActive.setWidth 32), (.rdCfgErr, s.cfgErr.setWidth 32), (.rdCfgSum, s.cfgSum),
     (.rdRdStat, s.rdStat.setWidth 32), (.rdRptr, s.rptr), (.rdWrStat, s.wrStat.setWidth 32),
     (.rdWptr, s.wptr), (.rdCvtFixIn, s.cvtFixIn), (.rdCvtFltIn, s.cvtFltIn)],
    exec p.1 s = .next (answered p.2 s)

/-- R23, R24, R262: the fields of STATUS. -/
def Obligations.StatusReadShowsItsFields : Prop :=
  ∀ s : State, ∃ w : Word, exec .rdStatus s = .next (answered w s) ∧
    (s.life = .uninit → w.extractLsb' 0 2 = 0#2) ∧ (s.life = .configured → w.extractLsb' 0 2 = 1#2) ∧
    (s.life = .running → w.extractLsb' 0 2 = 2#2) ∧ (s.life = .poweredOff → w.extractLsb' 0 2 = 3#2) ∧
    w.getLsbD 2 = s.cfgBusy ∧ w.getLsbD 3 = s.rdBusy ∧ w.getLsbD 4 = s.wrBusy ∧ w.getLsbD 5 = s.pwr ∧
    w.getLsbD 6 = s.mclkEn ∧
    w.getLsbD 7 =
      ((s.irqPend.getLsbD 0 && s.irqEn.getLsbD 0) || (s.irqPend.getLsbD 1 && s.irqEn.getLsbD 1) ||
        (s.irqPend.getLsbD 2 && s.irqEn.getLsbD 2) || (s.irqPend.getLsbD 3 && s.irqEn.getLsbD 3)) ∧
    w.extractLsb' 8 24 = 0#24

/-- R37: the parameter registers show the parameters.
That the parameters are a field of State is the model's choice (log 1). -/
def Obligations.ParameterReadsShowTheParameters : Prop :=
  ∀ s : State, s.params.legal →
    (∃ w : Word, exec .rdParams s = .next (answered w s) ∧ (w.extractLsb' 0 16).toNat = s.params.maxSamples ∧
      w.extractLsb' 16 8 = 2#8 ∧ (w.extractLsb' 24 8).toNat = s.params.numBus - 1) ∧
    (∃ w : Word, exec .rdParamTimeout s = .next (answered w s) ∧ w.toNat = s.params.timeout) ∧
    (∃ w : Word, exec .rdParamSettle s = .next (answered w s) ∧ w.toNat = s.params.settle) ∧
    (∃ w : Word, exec .rdParamMclkMult s = .next (answered w s) ∧ w.toNat = s.params.mclkMult)

/-- R142, R143: the converter outputs are the converted inputs as they stand at the start of the cycle; a read may be repeated,
and a read after a write of the input sees the new input. -/
def Obligations.ConverterReadsAnswerTheConversion : Prop :=
  (encode .rdCvtFltOut = .access 0x00074#21 0#32 ∧ encode .rdCvtFixOut = .access 0x0007C#21 0#32) ∧
  (∀ s : State,
    exec .rdCvtFltOut s = .next (answered (toFloat s.cvtFixIn) s) ∧
    exec .rdCvtFixOut s = .next (answered (toFixed s.cvtFltIn) s) ∧
    exec .rdCvtFltOut (answered (toFloat s.cvtFixIn) s) = .next (answered (toFloat s.cvtFixIn) s) ∧
    exec .rdCvtFixOut (answered (toFixed s.cvtFltIn) s) = .next (answered (toFixed s.cvtFltIn) s)) ∧
  (∀ (v : Word) (s : State),
    (∃ t, exec (.wrCvtFixIn v) s = .next t ∧ exec .rdCvtFltOut t = .next (answered (toFloat v) t)) ∧
    (∃ t, exec (.wrCvtFltIn v) s = .next t ∧ exec .rdCvtFixOut t = .next (answered (toFixed v) t))) ∧
  (toFloat 0x80000000#32 = 0xBF800000#32 ∧ toFixed 0x40000000#32 = 0x7FFFFF00#32)

/-- R144, R241, R146, R242, R240, R243: the raw and float views of both buffers: in range the word, for RBUF with HAZ_RBUF during
a READ_BLOCK, for WBUF never a hazard; out of range 0 and BUS_RANGE. -/
def Obligations.WindowReadsAnswerTheWord : Prop :=
  ∀ (i : Nat) (s : State),
    (i < s.nActive.toNat → s.rdBusy = false →
      exec (.rdRbuf i) s = .next (answered (readWord s.rbuf (4 * i)) s) ∧
      exec (.rdRbufF i) s = .next (answered (toFloat (readWord s.rbuf (4 * i))) s)) ∧
    (i < s.nActive.toNat → s.rdBusy = true →
      exec (.rdRbuf i) s = .next (recorded 0x100#10 (readWord s.rbuf (4 * i)) s) ∧
      exec (.rdRbufF i) s = .next (recorded 0x100#10 (toFloat (readWord s.rbuf (4 * i))) s)) ∧
    (s.nActive.toNat ≤ i →
      exec (.rdRbuf i) s = .next (recorded 0x080#10 0#32 s) ∧
      exec (.rdRbufF i) s = .next (recorded 0x080#10 0#32 s)) ∧
    (i < s.nActive.toNat →
      exec (.rdWbuf i) s = .next (answered (readWord s.wbuf (4 * i)) s) ∧
      exec (.rdWbufF i) s = .next (answered (toFloat (readWord s.wbuf (4 * i))) s)) ∧
    (s.nActive.toNat ≤ i →
      exec (.rdWbuf i) s = .next (recorded 0x080#10 0#32 s) ∧
      exec (.rdWbufF i) s = .next (recorded 0x080#10 0#32 s))

/-! ### Writes -/

/-- R46, R244: a write to a register with no writable field, or to a window of RBUF at any index, raises BUS_RO and changes
nothing else, in every state. -/
def Obligations.ReadOnlyWritesRaiseBusRo : Prop :=
  ∀ (i : Nat) (v : Word) (s : State), ∀ j ∈ readOnlyWrites v ++ [.wrRbuf i v, .wrRbufF i v],
    ∃ d, exec j s = .next (recorded 0x020#10 d s)

/-- R21, R25-R27, R42: ERR and IRQ_PEND are cleared where the written bit is 1, bit by bit; IRQ_EN and the converter inputs store
their bits. -/
def Obligations.ClearingAndStoringWrites : Prop :=
  ∀ (v : Word) (s : State),
    (∃ d e, exec (.wrErr v) s = .next { answered d s with err := e } ∧
      ∀ k < 10, e.getLsbD k = (s.err.getLsbD k && !v.getLsbD k)) ∧
    (∃ d e, exec (.wrIrqPend v) s = .next { answered d s with irqPend := e } ∧
      ∀ k < 4, e.getLsbD k = (s.irqPend.getLsbD k && !v.getLsbD k)) ∧
    (∃ d, exec (.wrIrqEn v) s = .next { answered d s with irqEn := v.setWidth 4 }) ∧
    (∃ d, exec (.wrCvtFixIn v) s = .next { answered d s with cvtFixIn := v }) ∧
    (∃ d, exec (.wrCvtFltIn v) s = .next { answered d s with cvtFltIn := v })

/-- R21, R28-R32: a configuration write while STATE = UNINIT and CFG_BUSY = 0 stores the register's bits; at any other time it
is ignored and raises CFG_LOCKED. -/
def Obligations.ConfigWritesStoreOnlyWhileUnlocked : Prop :=
  ∀ (v : Word) (s : State),
    (s.life = .uninit → s.cfgBusy = false →
      (∃ d, exec (.wrCfgRate v) s = .next { answered d s with cfgRate := v }) ∧
      (∃ d, exec (.wrCfgChan v) s = .next { answered d s with cfgChan := v.setWidth 8 }) ∧
      (∃ d, exec (.wrCfgBlock v) s = .next { answered d s with cfgBlock := v.setWidth 16 }) ∧
      (∃ d, exec (.wrCfgBus v) s = .next { answered d s with cfgBus := v.setWidth 8 }) ∧
      (∃ d, exec (.wrCfgMode v) s = .next { answered d s with cfgMaster := v.getLsbD 0 })) ∧
    (s.life ≠ .uninit ∨ s.cfgBusy = true → ∀ j ∈ configWrites v,
      ∃ d, exec j s = .next (recorded 0x040#10 d s))

/-- R145, R245, R240, R243: a write of a WBUF window stores the word (converted in the float view), with HAZ_WBUF during a
WRITE_BLOCK; out of range it stores nothing and raises BUS_RANGE. -/
def Obligations.WbufWritesStoreTheWord : Prop :=
  ∀ (i : Nat) (v : Word) (s : State),
    (i < s.nActive.toNat → s.wrBusy = false →
      (∃ d, exec (.wrWbuf i v) s = .next { answered d s with wbuf := writeWord s.wbuf (4 * i) v }) ∧
      (∃ d, exec (.wrWbufF i v) s = .next { answered d s with wbuf := writeWord s.wbuf (4 * i) (toFixed v) })) ∧
    (i < s.nActive.toNat → s.wrBusy = true →
      (∃ d, exec (.wrWbuf i v) s = .next { recorded 0x200#10 d s with wbuf := writeWord s.wbuf (4 * i) v }) ∧
      (∃ d, exec (.wrWbufF i v) s =
        .next { recorded 0x200#10 d s with wbuf := writeWord s.wbuf (4 * i) (toFixed v) })) ∧
    (s.nActive.toNat ≤ i →
      (∃ d, exec (.wrWbuf i v) s = .next (recorded 0x080#10 d s)) ∧
      (∃ d, exec (.wrWbufF i v) s = .next (recorded 0x080#10 d s)))

/-- R145, R146, R242, R245: what a WBUF window write stored is read back, raw and converted, and no other word changed.
The canonical form of the premise is the model's choice (log 4). -/
def Obligations.WbufWriteReadsBack : Prop :=
  ∀ (i : Nat) (v : Word) (s t : State), Memory.wf s.wbuf = true → i < s.nActive.toNat →
    (exec (.wrWbuf i v) s = .next t →
      exec (.rdWbuf i) t = .next (answered v t) ∧ exec (.rdWbufF i) t = .next (answered (toFloat v) t) ∧
      ∀ j, j ≠ i → readWord t.wbuf (4 * j) = readWord s.wbuf (4 * j)) ∧
    (exec (.wrWbufF i v) s = .next t →
      exec (.rdWbuf i) t = .next (answered (toFixed v) t) ∧
      exec (.rdWbufF i) t = .next (answered (toFloat (toFixed v)) t) ∧
      ∀ j, j ≠ i → readWord t.wbuf (4 * j) = readWord s.wbuf (4 * j))

/-! ### Commands -/

/-- R161: an illegal command word raises CMD_ILLEGAL and changes nothing else, in every state. -/
def Obligations.IllegalCommandWordRaisesOnlyCmdIllegal : Prop :=
  ∀ (w : Word) (s : State),
    w ∉ [0x00000000#32, 0x00000001#32, 0x00000002#32, 0x00000102#32, 0x00000003#32, 0x00000004#32] →
    ∃ d, exec (.wrCmd w) s = .next (recorded 0x001#10 d s)

/-- R160, R164: a write of a legal word to CMD does the command, in the same cycle. -/
def Obligations.CmdWriteDoesTheCommand : Prop :=
  (∀ (w : Word) (c : Command) (s : State), decodeCommand w = .ok c →
    exec (.wrCmd w) s = exec (commandInstr c) s) ∧
  (∀ s : State, ∃ d, exec (.wrCmd 0x00000000#32) s = .next (answered d s)) ∧
  (∀ s : State, Idle s → s.life = .uninit →
    ∃ d, exec (.wrCmd 0x00000001#32) s = .next (startConfig (answered d s))) ∧
  (∀ s : State, s.cfgBusy = false →
    (∃ d, exec (.wrCmd 0x00000002#32) s = .next (setPower false (answered d s))) ∧
    (∃ d, exec (.wrCmd 0x00000102#32) s = .next (setPower true (answered d s)))) ∧
  (∀ s : State, Idle s → s.life ≠ .uninit →
    (∃ d, exec (.wrCmd 0x00000003#32) s = .next (startRead (answered d s))) ∧
    (∃ d, exec (.wrCmd 0x00000004#32) s = .next (startWrite (answered d s))))

/-- R165: NOP is the word 0, is accepted in every state and changes nothing; with ARG = 1 it is an illegal word. -/
def Obligations.NopChangesNothing : Prop :=
  encode .nop = .command 0x00000000#32 ∧
  (∀ s : State, ∃ d, exec .nop s = .next (answered d s)) ∧
  (∀ s : State, ∃ d, exec (.wrCmd 0x00000000#32) s = .next (answered d s)) ∧
  decodeCommand 0x00000100#32 = .error .illegalCommand ∧
  (∀ s : State, ∃ d, exec (.wrCmd 0x00000100#32) s = .next (recorded 0x001#10 d s))

/-- R180, R162: CONFIG with no command in flight in UNINIT starts the sequencer and clears the results. -/
def Obligations.ConfigAcceptedStartsSequencer : Prop :=
  ∀ s : State, Idle s → s.life = .uninit →
    ∃ d, exec .config s = .next
      { answered d s with
        cfgBusy := true, cfgStage := .validate, tmr := 0#32, cfgErr := 0#8, cfgSum := 0#32,
        rdStat := 0#5, rptr := 0#32, wrStat := 0#6, wptr := 0#32 }

/-- R210, R166: ENABLE(p) outside CONFIG sets the power line and moves STATE between RUNNING and POWERED_OFF only, in every
STATE and during a transfer. -/
def Obligations.EnableSetsPower : Prop :=
  ∀ (p : Bool) (s : State), s.cfgBusy = false →
    ∃ d l, exec (.enable p) s = .next { answered d s with pwr := p, life := l } ∧
      (s.life = .uninit → l = .uninit) ∧ (s.life = .configured → l = .configured) ∧
      (s.life = .running ∨ s.life = .poweredOff → p = true → l = .running) ∧
      (s.life = .running ∨ s.life = .poweredOff → p = false → l = .poweredOff)

/-- R220, R224, R166: a transfer command with no command in flight outside UNINIT sets its busy bit and clears its pointer
and status; CONFIGURED moves by PWR. -/
def Obligations.TransferCommandsAccepted : Prop :=
  ∀ s : State, Idle s → s.life ≠ .uninit →
    ∃ l, (s.life = .configured → s.pwr = true → l = .running) ∧
      (s.life = .configured → s.pwr = false → l = .poweredOff) ∧ (s.life ≠ .configured → l = s.life) ∧
      (∃ d, exec .readBlock s = .next
        { answered d s with rdBusy := true, rptr := 0#32, rdStat := 0#5, tmr := 0#32, life := l }) ∧
      (∃ d, exec .writeBlock s = .next
        { answered d s with wrBusy := true, wptr := 0#32, wrStat := 0#6, tmr := 0#32, life := l })

/-- R163, with the table of R162: a rejected command raises exactly one error and has no other effect; CMD_BUSY comes before
CMD_STATE, and an illegal word is checked for neither. -/
def Obligations.RejectedCommandRaisesOneError : Prop :=
  ∀ s : State,
    (s.cfgBusy = true ∨ s.rdBusy = true ∨ s.wrBusy = true →
      (∃ d, exec .config s = .next (recorded 0x002#10 d s)) ∧
      (∃ d, exec .readBlock s = .next (recorded 0x002#10 d s)) ∧
      (∃ d, exec .writeBlock s = .next (recorded 0x002#10 d s))) ∧
    (s.cfgBusy = true → ∀ p, ∃ d, exec (.enable p) s = .next (recorded 0x002#10 d s)) ∧
    (Idle s → s.life ≠ .uninit → ∃ d, exec .config s = .next (recorded 0x004#10 d s)) ∧
    (Idle s → s.life = .uninit →
      (∃ d, exec .readBlock s = .next (recorded 0x004#10 d s)) ∧
      (∃ d, exec .writeBlock s = .next (recorded 0x004#10 d s))) ∧
    (∀ w, decodeCommand w = .error .illegalCommand →
      ∃ d, exec (.wrCmd w) s = .next (recorded 0x001#10 d s))

/-! ### Frames -/

/-- R76: a read changes nothing but the bus response, and ERR and IRQ_PEND.ERR by an error or hazard of a window read. -/
def Obligations.ReadFrame : Prop :=
  ∀ (k : Nat) (i : Instr) (s t : State), i ∈ registerReads ++ windowReads k → exec i s = .next t →
    t = { s with busRdata := t.busRdata, busErr := t.busErr, err := t.err, irqPend := t.irqPend } ∧
    (i ∈ registerReads → t.err = s.err ∧ t.irqPend = s.irqPend ∧ t.busErr = false) ∧
    (t.err = s.err ∧ t.irqPend = s.irqPend ∨
      (t.err = s.err ||| 0x080#10 ∨ t.err = s.err ||| 0x100#10) ∧ t.irqPend = s.irqPend ||| 0x8#4) ∧
    (∀ a, readByte t.rbuf a = readByte s.rbuf a ∧ readByte t.wbuf a = readByte s.wbuf a)

/-- R21, R46, R77: what each register write leaves unchanged: all but the register it names, the bus response, and, for a
register whose write can be refused, ERR and IRQ_PEND. No byte of a buffer changes. -/
def Obligations.RegisterWriteFrame : Prop :=
  ∀ (v : Word) (s t : State),
    (exec (.wrErr v) s = .next t →
      t = { s with busRdata := t.busRdata, busErr := t.busErr, err := t.err }) ∧
    (exec (.wrIrqPend v) s = .next t →
      t = { s with busRdata := t.busRdata, busErr := t.busErr, irqPend := t.irqPend }) ∧
    (exec (.wrIrqEn v) s = .next t →
      t = { s with busRdata := t.busRdata, busErr := t.busErr, irqEn := t.irqEn }) ∧
    (exec (.wrCvtFixIn v) s = .next t →
      t = { s with busRdata := t.busRdata, busErr := t.busErr, cvtFixIn := t.cvtFixIn }) ∧
    (exec (.wrCvtFltIn v) s = .next t →
      t = { s with busRdata := t.busRdata, busErr := t.busErr, cvtFltIn := t.cvtFltIn }) ∧
    (exec (.wrCfgRate v) s = .next t → t =
      { s with busRdata := t.busRdata, busErr := t.busErr, err := t.err, irqPend := t.irqPend, cfgRate := t.cfgRate }) ∧
    (exec (.wrCfgChan v) s = .next t → t =
      { s with busRdata := t.busRdata, busErr := t.busErr, err := t.err, irqPend := t.irqPend, cfgChan := t.cfgChan }) ∧
    (exec (.wrCfgBlock v) s = .next t → t =
      { s with busRdata := t.busRdata, busErr := t.busErr, err := t.err, irqPend := t.irqPend, cfgBlock := t.cfgBlock }) ∧
    (exec (.wrCfgBus v) s = .next t → t =
      { s with busRdata := t.busRdata, busErr := t.busErr, err := t.err, irqPend := t.irqPend, cfgBus := t.cfgBus }) ∧
    (exec (.wrCfgMode v) s = .next t → t =
      { s with
        busRdata := t.busRdata, busErr := t.busErr, err := t.err, irqPend := t.irqPend, cfgMaster := t.cfgMaster }) ∧
    (∀ i ∈ readOnlyWrites v, exec i s = .next t → t =
      { s with busRdata := t.busRdata, busErr := t.busErr, err := t.err, irqPend := t.irqPend }) ∧
    (∀ i ∈ [.wrErr v, .wrIrqPend v, .wrIrqEn v, .wrCvtFixIn v, .wrCvtFltIn v] ++ configWrites v ++ readOnlyWrites v,
      exec i s = .next t → ∀ a, readByte t.rbuf a = readByte s.rbuf a ∧ readByte t.wbuf a = readByte s.wbuf a)

/-- R145, R244, R245: a window write changes no byte but the four at the byte offset of its index in WBUF, and no register but
the bus response, ERR and IRQ_PEND; a write of an RBUF window changes no byte at all. -/
def Obligations.WindowWriteFrame : Prop :=
  ∀ (i : Nat) (v : Word) (s t : State),
    (∀ j ∈ [Instr.wrWbuf i v, .wrWbufF i v], exec j s = .next t →
      t = { s with
        busRdata := t.busRdata, busErr := t.busErr, err := t.err, irqPend := t.irqPend, wbuf := t.wbuf } ∧
      (∀ a, a < wordAddr i ∨ wordAddr i + 4 ≤ a → readByte t.wbuf a = readByte s.wbuf a) ∧
      (∀ a, readByte t.rbuf a = readByte s.rbuf a)) ∧
    (∀ j ∈ [Instr.wrRbuf i v, .wrRbufF i v], exec j s = .next t →
      t = { s with busRdata := t.busRdata, busErr := t.busErr, err := t.err, irqPend := t.irqPend } ∧
      (∀ a, readByte t.wbuf a = readByte s.wbuf a ∧ readByte t.rbuf a = readByte s.rbuf a))

/-- R165, R180, R210, R220, R224: what each command, and a CMD write of any word, leaves unchanged, accepted or refused. No byte
of a buffer changes. -/
def Obligations.CommandFrame : Prop :=
  ∀ (p : Bool) (w : Word) (s t : State),
    (exec .nop s = .next t → t = { s with busRdata := t.busRdata, busErr := t.busErr }) ∧
    (exec .config s = .next t → t =
      { s with
        busRdata := t.busRdata, busErr := t.busErr, err := t.err, irqPend := t.irqPend, cfgBusy := t.cfgBusy,
        cfgStage := t.cfgStage, tmr := t.tmr, cfgErr := t.cfgErr, cfgSum := t.cfgSum, rdStat := t.rdStat,
        rptr := t.rptr, wrStat := t.wrStat, wptr := t.wptr }) ∧
    (exec (.enable p) s = .next t → t =
      { s with
        busRdata := t.busRdata, busErr := t.busErr, err := t.err, irqPend := t.irqPend, pwr := t.pwr, life := t.life }) ∧
    (exec .readBlock s = .next t → t =
      { s with
        busRdata := t.busRdata, busErr := t.busErr, err := t.err, irqPend := t.irqPend, rdBusy := t.rdBusy,
        rptr := t.rptr, rdStat := t.rdStat, tmr := t.tmr, life := t.life }) ∧
    (exec .writeBlock s = .next t → t =
      { s with
        busRdata := t.busRdata, busErr := t.busErr, err := t.err, irqPend := t.irqPend, wrBusy := t.wrBusy,
        wptr := t.wptr, wrStat := t.wrStat, tmr := t.tmr, life := t.life }) ∧
    (exec (.wrCmd w) s = .next t → t =
      { s with
        busRdata := t.busRdata, busErr := t.busErr, err := t.err, irqPend := t.irqPend, cfgBusy := t.cfgBusy,
        rdBusy := t.rdBusy, wrBusy := t.wrBusy, cfgStage := t.cfgStage, tmr := t.tmr, cfgErr := t.cfgErr,
        cfgSum := t.cfgSum, rdStat := t.rdStat, rptr := t.rptr, wrStat := t.wrStat, wptr := t.wptr,
        pwr := t.pwr, life := t.life }) ∧
    (∀ i ∈ [Instr.nop, .config, .enable p, .readBlock, .writeBlock, .wrCmd w], exec i s = .next t →
      ∀ a, readByte t.rbuf a = readByte s.rbuf a ∧ readByte t.wbuf a = readByte s.wbuf a)

/-! ### The cycle -/

/-- R293: a step whose access decodes runs that instruction: a read on the state at the start of the cycle, with the transfer's
step and the stage's after it; a write after the transfer's step, with the stage's after it. The close of the cycle records the
ports. Accesses that do not decode are not stated here.
One step as one cycle, and the host program and the agents' inputs as data, are the model's choices (logs 7, 3 and 2), and so is
the record of the ports (log 9). R293 states that set wins over a clear of the same cycle; that the model gets this by registering a
transfer's interrupt bits after the host write is deduced (log 8). -/
def Obligations.StepRunsTheDecodedInstruction : Prop :=
  ∀ (s : State) (acc : Access) (i : Instr),
    busNow s.host = { rstN := true, access := some acc } → decodeAccess acc = .ok i →
    (acc.write = false →
      step s = andThen (exec i s) (fun u =>
        closeCycle s (stageStep s.cfgStage (agentsNow s)
          (registerEvents (transferEvents u (transferStep (agentsNow s) u)) (transferStep (agentsNow s) u))))) ∧
    (acc.write = true →
      step s = andThen (exec i (transferStep (agentsNow s) s)) (fun u =>
        closeCycle s (stageStep s.cfgStage (agentsNow s)
          (registerEvents (transferEvents s (transferStep (agentsNow s) s)) u))))

/-- R48, R290, R291: after a cycle with rst_n = 0 every register and hidden state has its reset value, whatever the state was
and whatever the host and the agents drive; the outputs of that cycle still reflect the state before it, those of the next one
the reset state; the parameters stay. The machine's reset state holds the same values. The record of the ports in `out`,
`busRdata` and `busErr` is the model's (log 9), and so are the parameters as a field of State (log 1); bus_rdata is not stated for
a cycle in which a write is presented, where the spec gives none (log 6). -/
def Obligations.ResetGivesResetValues : Prop :=
  (∀ (h : BusIn) (a : AgentIn) (s : State), h.rstN = false → ∃ t, runCycle h a s = .next t ∧
      (t.life = .uninit ∧ t.cfgBusy = false ∧ t.rdBusy = false ∧ t.wrBusy = false ∧ t.pwr = false ∧
        t.mclkEn = false ∧ t.err = 0#10 ∧ t.irqPend = 0#4 ∧ t.irqEn = 0#4) ∧
      (t.cfgRate = 48000#32 ∧ t.cfgChan = 2#8 ∧ t.cfgBlock = 256#16 ∧ t.cfgBus = 0#8 ∧
        exec .rdCfgMode t = .next (answered 0x0F201801#32 t)) ∧
      (t.mclkHz = 0#32 ∧ t.nActive = 0#15 ∧ t.cfgErr = 0#8 ∧ t.cfgSum = 0#32 ∧ t.rdStat = 0#5 ∧ t.rptr = 0#32 ∧
        t.wrStat = 0#6 ∧ t.wptr = 0#32 ∧ t.cvtFixIn = 0#32 ∧ t.cvtFltIn = 0#32 ∧ t.tmr = 0#32 ∧
        t.cfgStage = .idle ∧ t.req = false) ∧
      (exec .rdStatus t = .next (answered 0#32 t) ∧ t.busErr = false ∧ t.params = s.params ∧
        ((∀ acc, h.access = some acc → acc.write = false) → t.busRdata = 0#32)) ∧
      t.out = outputs s ∧ outputs t = PortsOut.reset) ∧
  (State.reset.life = .uninit ∧ State.reset.cfgBusy = false ∧ State.reset.rdBusy = false ∧
    State.reset.wrBusy = false ∧ State.reset.pwr = false ∧ State.reset.mclkEn = false) ∧
  (State.reset.err = 0#10 ∧ State.reset.irqPend = 0#4 ∧ State.reset.irqEn = 0#4 ∧ State.reset.cfgRate = 48000#32 ∧
    State.reset.cfgChan = 2#8 ∧ State.reset.cfgBlock = 256#16 ∧ State.reset.cfgBus = 0#8 ∧
    State.reset.cfgMaster = true) ∧
  (State.reset.mclkHz = 0#32 ∧ State.reset.nActive = 0#15 ∧ State.reset.cfgErr = 0#8 ∧ State.reset.cfgSum = 0#32 ∧
    State.reset.rdStat = 0#5 ∧ State.reset.rptr = 0#32 ∧ State.reset.wrStat = 0#6 ∧ State.reset.wptr = 0#32 ∧
    State.reset.cvtFixIn = 0#32 ∧ State.reset.cvtFltIn = 0#32 ∧ State.reset.tmr = 0#32 ∧
    State.reset.cfgStage = .idle ∧ State.reset.req = false) ∧
  outputs State.reset = PortsOut.reset

/-- R47, R228, R232, R236, R262, R211: the stream, power, clock and interrupt ports, as functions of the state at the start of
a cycle (with C = 2, as it is whenever a transfer runs). -/
def Obligations.StreamAndStatusPorts : Prop :=
  ∀ s : State,
    ((outputs s).rxReady = s.rdBusy ∧ (outputs s).txValid = s.wrBusy ∧ (outputs s).pwrEn = s.pwr ∧
      (outputs s).mclkEn = s.mclkEn ∧ (outputs s).mclkHz = s.mclkHz) ∧
    ((outputs s).irq =
      ((s.irqPend.getLsbD 0 && s.irqEn.getLsbD 0) || (s.irqPend.getLsbD 1 && s.irqEn.getLsbD 1) ||
        (s.irqPend.getLsbD 2 && s.irqEn.getLsbD 2) || (s.irqPend.getLsbD 3 && s.irqEn.getLsbD 3))) ∧
    (s.wrBusy = true → (outputs s).txData = readWord s.wbuf (4 * s.wptr.toNat)) ∧
    (s.wrBusy = false → (outputs s).txData = 0#32 ∧ (outputs s).txCh = 0#8) ∧
    (s.rdBusy = false → (outputs s).rxCh = 0#8) ∧
    (s.cfgChan = 2#8 →
      (s.rdBusy = true → (outputs s).rxCh.toNat = s.rptr.toNat % 2) ∧
      (s.wrBusy = true → (outputs s).txCh.toNat = s.wptr.toNat % 2))

/-- R185, R186: the configuration port while a request is outstanding, and while none is. -/
def Obligations.ConfigurationPortOutputs : Prop :=
  ∀ s : State, Inv s →
    ((outputs s).perReq = true ↔ s.cfgStage ∈ [.install, .pins, .rate, .zero]) ∧
    (s.cfgStage = .install → (outputs s).perStage = 1#3 ∧
      (outputs s).perArg =
        s.cfgBus.setWidth 32 ||| (if s.cfgMaster then 0x00000100#32 else 0#32) ||| 0x20181E00#32) ∧
    (s.cfgStage = .pins → (outputs s).perStage = 2#3 ∧ (outputs s).perArg = s.cfgBus.setWidth 32) ∧
    (s.cfgStage = .rate → (outputs s).perStage = 3#3 ∧ (outputs s).perArg = s.cfgRate) ∧
    (s.cfgStage = .zero → (outputs s).perStage = 4#3 ∧ (outputs s).perArg = 0#32) ∧
    (s.cfgStage ∉ [.install, .pins, .rate, .zero] → (outputs s).perStage = 0#3 ∧ (outputs s).perArg = 0#32)

/-! ### Transfers -/

/-- R229, R86, R220: in a cycle with a READ_BLOCK in flight, whatever the host does, a word that the source offers is stored
unmodified at RBUF[RPTR] and no other word changes; RPTR advances exactly with it, save where this cycle ends the transfer and a
READ_BLOCK that the host presents in it is accepted, which restarts RPTR at 0. -/
def Obligations.RxWordStoredAtReadPointer : Prop :=
  ∀ (h : BusIn) (a : AgentIn) (s t : State), Inv s → s.rdBusy = true → h.rstN = true → runCycle h a s = .next t →
    (a.rxValid = true →
      readWord t.rbuf (4 * s.rptr.toNat) = a.rxData ∧
      ∀ j, j ≠ s.rptr.toNat → readWord t.rbuf (4 * j) = readWord s.rbuf (4 * j)) ∧
    (a.rxValid = false → t.rbuf = s.rbuf) ∧
    (presentedCommand h ≠ some .readBlock ∨ (transferStep a s).rdBusy = true →
      (a.rxValid = true → t.rptr.toNat = s.rptr.toNat + 1) ∧ (a.rxValid = false → t.rptr = s.rptr)) ∧
    (presentedCommand h = some .readBlock → (transferStep a s).rdBusy = false → t.rptr = 0#32 ∧ t.rdBusy = true)

/-- R232, R233, R86, R224: in a cycle with a WRITE_BLOCK in flight, whatever the host does, the port carries WBUF[WPTR] of the
start of the cycle; WPTR advances exactly when the sink is ready, save where this cycle ends the transfer and a WRITE_BLOCK that the
host presents in it is accepted, which restarts WPTR at 0. The transfer does not change WBUF, and the cycle does not unless the
host accesses a window of WBUF. The record of the ports in `out` is the model's (log 9). -/
def Obligations.TxWordSentFromWritePointer : Prop :=
  ∀ (h : BusIn) (a : AgentIn) (s t : State), Inv s → s.wrBusy = true → h.rstN = true → runCycle h a s = .next t →
    (t.out.txValid = true ∧ t.out.txData = readWord s.wbuf (4 * s.wptr.toNat)) ∧
    ((transferStep a s).wbuf = s.wbuf ∧
      ((∀ acc, h.access = some acc →
          acc.write = false ∨ acc.addr.toNat < 0x30000 ∨ 0x50000 ≤ acc.addr.toNat) → t.wbuf = s.wbuf)) ∧
    (presentedCommand h ≠ some .writeBlock ∨ (transferStep a s).wrBusy = true →
      (a.txReady = true → t.wptr.toNat = s.wptr.toNat + 1) ∧ (a.txReady = false → t.wptr = s.wptr)) ∧
    (presentedCommand h = some .writeBlock → (transferStep a s).wrBusy = false → t.wptr = 0#32 ∧ t.wrBusy = true)

/-- R246: the final status words, complete, and the status words while a transfer runs. -/
def Obligations.FinalStatusWords : Prop :=
  ∀ (a : AgentIn) (s : State), Inv s →
    (s.rdBusy = true →
      s.rdStat ∈ [0x00#5, 0x08#5] ∧
      ((transferStep a s).rdBusy = true → (transferStep a s).rdStat ∈ [0x00#5, 0x08#5]) ∧
      ((transferStep a s).rdBusy = false →
        ((transferStep a s).rptr.toNat = s.nActive.toNat →
          (transferStep a s).rdStat = if s.rdStat.getLsbD 3 || a.rxErr then 0x19#5 else 0x01#5) ∧
        ((transferStep a s).rptr.toNat ≠ s.nActive.toNat →
          (transferStep a s).rptr.toNat < s.nActive.toNat ∧
          (transferStep a s).rdStat = if s.rdStat.getLsbD 3 || a.rxErr then 0x1F#5 else 0x17#5))) ∧
    (s.wrBusy = true →
      s.wrStat ∈ [0x00#6, 0x08#6] ∧
      ((transferStep a s).wrBusy = true → (transferStep a s).wrStat ∈ [0x00#6, 0x08#6]) ∧
      ((transferStep a s).wrBusy = false →
        ((transferStep a s).wptr.toNat = s.nActive.toNat →
          (transferStep a s).wrStat = if s.wrStat.getLsbD 3 || a.txErr then 0x19#6 else 0x01#6) ∧
        (0 < (transferStep a s).wptr.toNat → (transferStep a s).wptr.toNat < s.nActive.toNat →
          (transferStep a s).wrStat = if s.wrStat.getLsbD 3 || a.txErr then 0x1F#6 else 0x07#6) ∧
        ((transferStep a s).wptr.toNat = 0 →
          (transferStep a s).wrStat = if s.wrStat.getLsbD 3 || a.txErr then 0x3F#6 else 0x37#6) ∧
        (transferStep a s).wptr.toNat ≤ s.nActive.toNat))

/-- R230, R234: in a cycle with a transfer in flight, whatever the host does but presenting a transfer command that is accepted
after the end, the transfer ends exactly when its pointer reaches N or its TIMEOUT_CYCLES-th busy cycle is over. It then drops
its busy bit, clears TMR, sets DONE, and TIMEOUT exactly when the pointer is not N; otherwise TMR counts the cycle. Its
IRQ_PEND bit is set with the end, also against a clear of the same cycle (set wins, R293; how the model gets this is log 8),
and of the three bits of commands no other changes unless the host clears it. A word that reaches N in the last cycle completes
the block. -/
def Obligations.TransferEndsByCompletionOrTimeout : Prop :=
  ∀ (h : BusIn) (a : AgentIn) (s t : State), Inv s → h.rstN = true →
    (presentedCommand h = some .readBlock ∨ presentedCommand h = some .writeBlock → ¬ Idle (transferStep a s)) →
    runCycle h a s = .next t →
    (s.rdBusy = true →
      (t.rdBusy = false ↔ t.rptr.toNat = s.nActive.toNat ∨ s.params.timeout ≤ s.tmr.toNat + 1) ∧
      (t.rdBusy = false →
        t.tmr = 0#32 ∧ t.irqPend.getLsbD 1 = true ∧ t.rdStat.getLsbD 0 = true ∧
        (t.rdStat.getLsbD 1 = true ↔ t.rptr.toNat ≠ s.nActive.toNat)) ∧
      (t.rdBusy = true → t.tmr.toNat = s.tmr.toNat + 1 ∧ t.rdStat.getLsbD 0 = false) ∧
      ((∀ v, presentedInstr h ≠ some (.wrIrqPend v)) →
        ∀ k < 3, t.irqPend.getLsbD k = (s.irqPend.getLsbD k || (decide (k = 1) && !t.rdBusy))) ∧
      (h.access = none → t.irqPend = if t.rdBusy then s.irqPend else s.irqPend ||| 0x2#4)) ∧
    (s.wrBusy = true →
      (t.wrBusy = false ↔ t.wptr.toNat = s.nActive.toNat ∨ s.params.timeout ≤ s.tmr.toNat + 1) ∧
      (t.wrBusy = false →
        t.tmr = 0#32 ∧ t.irqPend.getLsbD 2 = true ∧ t.wrStat.getLsbD 0 = true ∧
        (t.wrStat.getLsbD 1 = true ↔ t.wptr.toNat ≠ s.nActive.toNat)) ∧
      (t.wrBusy = true → t.tmr.toNat = s.tmr.toNat + 1 ∧ t.wrStat.getLsbD 0 = false) ∧
      ((∀ v, presentedInstr h ≠ some (.wrIrqPend v)) →
        ∀ k < 3, t.irqPend.getLsbD k = (s.irqPend.getLsbD k || (decide (k = 2) && !t.wrBusy))) ∧
      (h.access = none → t.irqPend = if t.wrBusy then s.irqPend else s.irqPend ||| 0x4#4))

/-- R226, R247: whatever the host and the agents do, a transfer in flight either ends in this cycle or has used up one more of
its TIMEOUT_CYCLES busy cycles.
That the interrupt bit survives a clear of the same cycle is R293's; how the model gets this is deduced (log 8). -/
def Obligations.TransferInFlightEndsOrCounts : Prop :=
  ∀ (h : BusIn) (a : AgentIn) (s t : State), Inv s → h.rstN = true → runCycle h a s = .next t →
    (s.rdBusy = true →
      t.irqPend.getLsbD 1 = true ∧ (transferStep a s).rdBusy = false ∨
      t.rdBusy = true ∧ t.tmr.toNat = s.tmr.toNat + 1 ∧ t.tmr.toNat < s.params.timeout) ∧
    (s.wrBusy = true →
      t.irqPend.getLsbD 2 = true ∧ (transferStep a s).wrBusy = false ∨
      t.wrBusy = true ∧ t.tmr.toNat = s.tmr.toNat + 1 ∧ t.tmr.toNat < s.params.timeout)

/-- R167, R212: a transfer's step is the same with the codec powered or not, and in every lifecycle state. -/
def Obligations.TransfersIndependentOfPower : Prop :=
  ∀ (p : Bool) (l : LifeState) (a : AgentIn) (s : State),
    transferStep a { s with pwr := p, life := l } = { transferStep a s with pwr := p, life := l }

/-! ### CONFIG -/

/-- R182: VALIDATE clamps the bus instance silently and records LAYOUT and SIZE. -/
def Obligations.ValidateClampsAndChecks : Prop :=
  ∀ (h : BusIn) (a : AgentIn) (s t : State), Inv s → s.cfgStage = .validate → h.rstN = true →
    runCycle h a s = .next t →
    t.cfgBus.toNat = min s.cfgBus.toNat (s.params.numBus - 1) ∧
    t.cfgErr.getLsbD 0 = (s.cfgErr.getLsbD 0 || decide (s.cfgChan ≠ 2#8)) ∧
    t.cfgErr.getLsbD 1 =
      (s.cfgErr.getLsbD 1 ||
        decide (s.cfgBlock.toNat = 0 ∨ s.cfgChan.toNat * s.cfgBlock.toNat > s.params.maxSamples)) ∧
    (∀ k, 2 ≤ k → t.cfgErr.getLsbD k = s.cfgErr.getLsbD k) ∧
    t.cfgStage = .powerDown ∧ t.cfgBusy = true ∧ t.cfgSum = s.cfgSum

/-- R183, R184: POWER_DOWN drives the power line inactive; MCLK computes the exact product or fails, and raises the first
request. -/
def Obligations.PowerDownAndMclkStages : Prop :=
  ∀ (h : BusIn) (a : AgentIn) (s t : State), Inv s → h.rstN = true → runCycle h a s = .next t →
    (s.cfgStage = .powerDown → t.pwr = false ∧ t.cfgStage = .mclk ∧ t.cfgErr = s.cfgErr ∧ t.mclkHz = s.mclkHz) ∧
    (s.cfgStage = .mclk →
      t.cfgStage = .install ∧ t.tmr = 0#32 ∧ t.req = true ∧
      (1 ≤ s.cfgRate.toNat * s.params.mclkMult ∧ s.cfgRate.toNat * s.params.mclkMult ≤ 2 ^ 32 - 1 →
        t.mclkHz.toNat = s.cfgRate.toNat * s.params.mclkMult ∧ t.cfgErr = s.cfgErr) ∧
      (¬ (1 ≤ s.cfgRate.toNat * s.params.mclkMult ∧ s.cfgRate.toNat * s.params.mclkMult ≤ 2 ^ 32 - 1) →
        t.mclkHz = 0#32 ∧ t.cfgErr = s.cfgErr ||| 0x04#8))

/-- R185, R187-R190: one cycle of an external stage: an acknowledge completes it and adds its status to CFG_SUM, a non-zero
status fails it; the TIMEOUT_CYCLES-th cycle without one fails it with STAGE_TIMEOUT; otherwise it waits. -/
def Obligations.ExternalStageHandshake : Prop :=
  ∀ (h : BusIn) (a : AgentIn) (s t : State), Inv s → h.rstN = true → runCycle h a s = .next t →
    ∀ p ∈ [(CfgStage.install, 0x08#8, CfgStage.pins), (.pins, 0x10#8, .rate), (.rate, 0x20#8, .zero),
      (.zero, 0x40#8, .clkRoute)], s.cfgStage = p.1 →
    (a.perAck = true →
      t.cfgSum = s.cfgSum + a.perStatus ∧ t.cfgStage = p.2.2 ∧ t.tmr = 0#32 ∧
      (a.perStatus = 0#32 → t.cfgErr = s.cfgErr) ∧ (a.perStatus ≠ 0#32 → t.cfgErr = s.cfgErr ||| p.2.1)) ∧
    (a.perAck = false → s.params.timeout ≤ s.tmr.toNat + 1 →
      t.cfgSum = s.cfgSum ∧ t.cfgStage = p.2.2 ∧ t.tmr = 0#32 ∧ t.cfgErr = s.cfgErr ||| p.2.1 ||| 0x80#8) ∧
    (a.perAck = false → s.tmr.toNat + 1 < s.params.timeout →
      t.cfgSum = s.cfgSum ∧ t.cfgStage = s.cfgStage ∧ t.tmr.toNat = s.tmr.toNat + 1 ∧ t.cfgErr = s.cfgErr)

/-- R191, R192, R193: the clock is routed in master mode; SETTLE lasts SETTLE_CYCLES cycles and is skipped at 0; ALLOC zeroes
every word of both buffers. -/
def Obligations.ClockSettleAllocStages : Prop :=
  ∀ (h : BusIn) (a : AgentIn) (s t : State), Inv s → h.rstN = true → runCycle h a s = .next t →
    (s.cfgStage = .clkRoute →
      t.mclkEn = s.cfgMaster ∧ t.tmr = 0#32 ∧ (s.params.settle = 0 → t.cfgStage = .alloc) ∧
      (s.params.settle ≠ 0 → t.cfgStage = .settle)) ∧
    (s.cfgStage = .settle →
      (s.params.settle ≤ s.tmr.toNat + 1 → t.cfgStage = .alloc ∧ t.tmr = 0#32) ∧
      (s.tmr.toNat + 1 < s.params.settle → t.cfgStage = .settle ∧ t.tmr.toNat = s.tmr.toNat + 1)) ∧
    (s.cfgStage = .alloc →
      t.cfgStage = .finish ∧ ∀ j, readWord t.rbuf (4 * j) = 0#32 ∧ readWord t.wbuf (4 * j) = 0#32)

/-- R196, R197: FINISH: success exactly when CFG_ERR = 0; CFG_BUSY falls and CFG_DONE is set in both cases, also against a
write-1-to-clear of the same cycle; CFG_ERR = 0 implies CFG_SUM = 0. -/
def Obligations.FinishStageResult : Prop :=
  ∀ (h : BusIn) (a : AgentIn) (s t : State), Inv s → s.cfgStage = .finish → h.rstN = true →
    runCycle h a s = .next t →
    t.cfgBusy = false ∧ t.cfgStage = .idle ∧ t.tmr = 0#32 ∧ t.irqPend.getLsbD 0 = true ∧ t.cfgErr = s.cfgErr ∧
    (s.cfgErr = 0#8 →
      t.life = .configured ∧ t.nActive.toNat = s.cfgChan.toNat * s.cfgBlock.toNat ∧ s.cfgSum = 0#32) ∧
    (s.cfgErr ≠ 0#8 → t.life = .uninit ∧ t.nActive = 0#15)

/-- R198: in the first cycle in which CFG_BUSY reads 0 after a CONFIG the power line is inactive, whatever the outcome and
whatever PWR was before. -/
def Obligations.PowerInactiveAfterConfig : Prop :=
  ∀ s t : State, Inv s → s.cfgBusy = true → step s = .next t → t.cfgBusy = false →
    t.pwr = false ∧ (outputs t).pwrEn = false ∧
    ∃ w, exec .rdStatus t = .next (answered w t) ∧ w.getLsbD 2 = false ∧ w.getLsbD 5 = false

/-! ### Whole-machine rules -/

/-- R49, R45, R185, R270, R246: the invariant of the block holds at reset.
The canonical form of the buffers in it is the model's choice (log 4). -/
def Obligations.InvariantAtReset : Prop := Inv State.reset

/-- R49, R45, R185, R270, R246: every step from a state that meets the invariant of the block meets it.
The canonical form of the buffers in it is the model's choice (log 4). -/
def Obligations.InvariantKeptByEveryStep : Prop :=
  ∀ s t : State, Inv s → step s = .next t → Inv t

/-- The stored buffers keep their canonical form through every step.
The form is the model's choice (log 4). -/
def Obligations.BuffersStayCanonical : Prop :=
  ∀ s t : State, Memory.wf s.rbuf = true ∧ Memory.wf s.wbuf = true → step s = .next t →
    Memory.wf t.rbuf = true ∧ Memory.wf t.wbuf = true

/-- R260, R295: the block has no halted, faulted or stuck state: every instruction and every step answers a next state. -/
def Obligations.BlockNeverStops : Prop :=
  (∀ (i : Instr) (s : State), ∃ t, exec i s = .next t) ∧ (∀ s : State, ∃ t, step s = .next t)

/-- R247, R275: the block never hangs. With no host access, and whatever the agents drive, no command is in flight after
TIMEOUT_CYCLES cycles, or, where a CONFIG runs, 6 + 4 x TIMEOUT_CYCLES + SETTLE_CYCLES. -/
def Obligations.BlockNeverHangs : Prop :=
  ∀ (s : State) (inputs : List AgentIn), Inv s →
    (if s.cfgBusy then 6 + 4 * s.params.timeout + s.params.settle else s.params.timeout) ≤ inputs.length →
    ∃ t, quietRun inputs s = .next t ∧ Idle t

/-- R166: the state transition table, complete. -/
def Obligations.LifecycleTransitions : Prop :=
  ∀ (h : BusIn) (a : AgentIn) (s t : State), Inv s → runCycle h a s = .next t →
    t.life =
      if h.rstN = false then .uninit
      else if s.cfgStage = .finish then (if s.cfgErr = 0#8 then .configured else .uninit)
      else
        match presentedCommand h with
        | some (.enable p) =>
          if s.life = .running ∨ s.life = .poweredOff then (if p then .running else .poweredOff) else s.life
        | some .readBlock | some .writeBlock =>
          if Idle (transferStep a s) ∧ s.life = .configured then (if s.pwr then .running else .poweredOff)
          else s.life
        | some .nop | some .config | none => s.life

/-- R21, R31, R43, R182, R195, R196, R211, R191, R184: outside UNINIT, and while a CONFIG runs, no cycle but a reset changes the
configuration, save VALIDATE's clamp of the bus instance, and N_ACTIVE changes in FINISH only. In every cycle but a reset, idle
UNINIT included: the configuration, IRQ_EN and the converter inputs change only by a host write of that register (and the clamp),
PWR only by an accepted ENABLE and in POWER_DOWN, MCLK_HZ in MCLK and MCLK_EN in CLK_ROUTE only. A CONFIG moves no stream, and
of itself writes neither ERR nor an IRQ_PEND bit other than CFG_DONE. -/
def Obligations.ConfigurationImmutableAfterSetup : Prop :=
  ∀ (h : BusIn) (a : AgentIn) (s t : State), Inv s → h.rstN = true → runCycle h a s = .next t →
    (s.life ≠ .uninit ∨ s.cfgBusy = true →
      t.cfgRate = s.cfgRate ∧ t.cfgChan = s.cfgChan ∧ t.cfgBlock = s.cfgBlock ∧ t.cfgMaster = s.cfgMaster ∧
      (s.cfgStage ≠ .validate → t.cfgBus = s.cfgBus)) ∧
    (s.cfgStage ≠ .finish → t.nActive = s.nActive) ∧
    ((t.cfgRate = s.cfgRate ∨ presentedInstr h = some (.wrCfgRate t.cfgRate)) ∧
     (t.cfgChan = s.cfgChan ∨ ∃ v, presentedInstr h = some (.wrCfgChan v) ∧ t.cfgChan = v.setWidth 8) ∧
     (t.cfgBlock = s.cfgBlock ∨ ∃ v, presentedInstr h = some (.wrCfgBlock v) ∧ t.cfgBlock = v.setWidth 16) ∧
     (s.cfgStage ≠ .validate →
       t.cfgBus = s.cfgBus ∨ ∃ v, presentedInstr h = some (.wrCfgBus v) ∧ t.cfgBus = v.setWidth 8) ∧
     (t.cfgMaster = s.cfgMaster ∨ ∃ v, presentedInstr h = some (.wrCfgMode v) ∧ t.cfgMaster = v.getLsbD 0) ∧
     (t.irqEn = s.irqEn ∨ ∃ v, presentedInstr h = some (.wrIrqEn v) ∧ t.irqEn = v.setWidth 4) ∧
     (t.cvtFixIn = s.cvtFixIn ∨ presentedInstr h = some (.wrCvtFixIn t.cvtFixIn)) ∧
     (t.cvtFltIn = s.cvtFltIn ∨ presentedInstr h = some (.wrCvtFltIn t.cvtFltIn))) ∧
    (s.cfgStage ≠ .powerDown →
      t.pwr = s.pwr ∨ s.cfgBusy = false ∧ presentedCommand h = some (.enable t.pwr)) ∧
    (s.cfgStage ≠ .mclk → t.mclkHz = s.mclkHz) ∧ (s.cfgStage ≠ .clkRoute → t.mclkEn = s.mclkEn) ∧
    (s.cfgBusy = true → t.rdBusy = false ∧ t.wrBusy = false ∧
      (h.access = none → t.err = s.err ∧ ∀ k, k ≠ 0 → t.irqPend.getLsbD k = s.irqPend.getLsbD k))

/-- R261, R263, R264: an access raises at most one error, with IRQ_PEND.ERR and bus_err, and no agent event raises one. -/
def Obligations.AtMostOneErrorPerAccess : Prop :=
  (∀ (acc : Access) (s t : State), hostAccess acc s = .next t →
    (t.busErr = true ∧ ∃ k < 10, t.err = s.err ||| BitVec.twoPow 10 k ∧ t.irqPend = s.irqPend ||| 0x8#4) ∨
    (t.busErr = false ∧ ∀ k, t.err.getLsbD k = true → s.err.getLsbD k = true)) ∧
  (∀ (a : AgentIn) (s t : State), runCycle quietBus a s = .next t → t.err = s.err ∧ t.busErr = false)

/-- R25, R26, R293: a write-1-to-clear of IRQ_PEND against events of the same cycle: set wins, bit by bit.
R293 states the outcome; the order in which the model registers the bits of a transfer's end is deduced (log 8). -/
def Obligations.SetWinsOverClear : Prop :=
  ∀ (v : Word) (a : AgentIn) (s t : State), Inv s →
    runCycle { rstN := true, access := some (wr32 0x0000C#20 v) } a s = .next t →
    t.irqPend.getLsbD 0 = ((s.irqPend.getLsbD 0 && !v.getLsbD 0) || decide (s.cfgStage = .finish)) ∧
    t.irqPend.getLsbD 1 =
      ((s.irqPend.getLsbD 1 && !v.getLsbD 1) || (s.rdBusy && !(transferStep a s).rdBusy)) ∧
    t.irqPend.getLsbD 2 =
      ((s.irqPend.getLsbD 2 && !v.getLsbD 2) || (s.wrBusy && !(transferStep a s).wrBusy)) ∧
    t.irqPend.getLsbD 3 = (s.irqPend.getLsbD 3 && !v.getLsbD 3)

/-- R43: RBUF is written only by the RX handshake and ALLOC, WBUF only by in-range writes of its windows and ALLOC. -/
def Obligations.BufferWritersAreTheListedOnes : Prop :=
  ∀ (h : BusIn) (a : AgentIn) (s t : State), h.rstN = true → runCycle h a s = .next t → s.cfgStage ≠ .alloc →
    (t.rbuf = s.rbuf ∨
      s.rdBusy = true ∧ a.rxValid = true ∧ t.rbuf = writeWord s.rbuf (4 * s.rptr.toNat) a.rxData) ∧
    (t.wbuf = s.wbuf ∨
      ∃ acc i v, h.access = some acc ∧ i < s.nActive.toNat ∧
        (decodeAccess acc = .ok (.wrWbuf i v) ∧ t.wbuf = writeWord s.wbuf (4 * i) v ∨
          decodeAccess acc = .ok (.wrWbufF i v) ∧ t.wbuf = writeWord s.wbuf (4 * i) (toFixed v)))

/-- R185, R228, R231, R235: with no transfer in flight and no request outstanding, nothing the agents drive has an effect. -/
def Obligations.IdleAgentInputsIgnored : Prop :=
  ∀ (h : BusIn) (a b : AgentIn) (s : State), s.rdBusy = false → s.wrBusy = false →
    s.cfgStage ∉ [.install, .pins, .rate, .zero] → runCycle h a s = runCycle h b s

/-! ### The Sample Converter (values of binary32 patterns in units of 2^-149, `floatVal`) -/

/-- R131: every result of toFloat lies in [-1, 1 - 2^-24], is not NaN, infinite, subnormal or -0, and is 0 or of magnitude at
least 2^-31. -/
def Obligations.ToFloatRange : Prop :=
  ∀ w : Word, isNaN (toFloat w) = false ∧ isInf (toFloat w) = false ∧
    -(2 : Int) ^ 149 ≤ floatVal (toFloat w) ∧ floatVal (toFloat w) ≤ 2 ^ 149 - 2 ^ 125 ∧
    (floatExp (toFloat w) = 0 → toFloat w = 0x00000000#32) ∧
    (toFloat w ≠ 0x00000000#32 → 2 ^ 118 ≤ (floatVal (toFloat w)).natAbs)

/-- R132: on words with bits 7:0 = 0, with S = sint32(w) >> 8, toFloat is exactly S x 2^-23, with no rounding and no clamp; its
largest and smallest values. -/
def Obligations.ToFloatExactOnSamples : Prop :=
  (∀ w : Word, w.extractLsb' 0 8 = 0#8 →
    floatVal (rne32 w.toInt 0) = w.toInt * 2 ^ 149 ∧ floatVal (rne32 w.toInt 0) < 2 ^ 180 ∧
    floatVal (toFloat w) = (w.toInt / 2 ^ 8) * 2 ^ 126 ∧
    floatVal 0xBF800000#32 ≤ floatVal (toFloat w) ∧ floatVal (toFloat w) ≤ floatVal 0x3F7FFFFE#32) ∧
  toFloat 0x7FFFFF00#32 = 0x3F7FFFFE#32 ∧ toFloat 0x80000000#32 = 0xBF800000#32 ∧
  floatVal 0x3F7FFFFE#32 = 2 ^ 149 - 2 ^ 126 ∧ floatVal 0xBF800000#32 = -2 ^ 149

/-- R133: the clamp region of toFloat. 0x4F000000 is 2^31, 0x3F800000 is 1.0; 0x4EFFFFFF is 2^31 - 128. -/
def Obligations.ToFloatClampRegion : Prop :=
  (∀ x : Int, -2 ^ 31 ≤ x → x < 2 ^ 31 → (rne32 x 0 = 0x4F000000#32 ↔ 2 ^ 31 - 64 ≤ x)) ∧
  (floatVal 0x4F000000#32 = 2 ^ 31 * 2 ^ 149 ∧ floatVal 0x4EFFFFFF#32 = (2 ^ 31 - 128) * 2 ^ 149 ∧
    floatFrac 0x4EFFFFFF#32 % 2 = 1 ∧ floatFrac 0x4F000000#32 % 2 = 0) ∧
  (∀ w : Word, floatVal (rne32 w.toInt 0) ≥ 2 ^ 180 ↔ 0x7FFFFFC0 ≤ w.toInt) ∧
  (∀ w : Word, 0x7FFFFFC0 ≤ w.toInt →
    toFloat w = 0x3F7FFFFF#32 ∧ rne32 (floatVal (rne32 w.toInt 0)) 180 = 0x3F800000#32) ∧
  (∀ w : Word, w.toInt < 0 → floatVal (rne32 w.toInt 0) < 2 ^ 180)

/-- R136, R137: for a finite pattern, n is the integer nearest to s = val(b) x 2^23, and the larger one when s lies halfway; the
word is n clamped and shifted. It saturates exactly from 1 - 2^-24 up, and exactly below -1 - 2^-24; every finite pattern of
value at most -1 gives the minimum. The examples of both rules. -/
def Obligations.ToFixedRoundsAndSaturates : Prop :=
  (∀ b : Word, isNaN b = false → isInf b = false →
    ∃ n : Int, 2 * floatVal b - 2 ^ 126 < n * 2 ^ 127 ∧ n * 2 ^ 127 ≤ 2 * floatVal b + 2 ^ 126 ∧
      toFixed b = fixedWord (min (max n (-2 ^ 23)) (2 ^ 23 - 1))) ∧
  toFixed 0x33800000#32 = 0x00000100#32 ∧ toFixed 0xB3800000#32 = 0x00000000#32 ∧
  toFixed 0xB4400000#32 = 0xFFFFFF00#32 ∧
  (∀ b : Word, isNaN b = false → isInf b = false →
    ((floatVal b + 2 ^ 125) / 2 ^ 126 > 2 ^ 23 - 1 ↔ 2 ^ 149 - 2 ^ 125 ≤ floatVal b) ∧
    (2 ^ 149 - 2 ^ 125 ≤ floatVal b → toFixed b = 0x7FFFFF00#32) ∧
    ((floatVal b + 2 ^ 125) / 2 ^ 126 < -2 ^ 23 ↔ floatVal b < -2 ^ 149 - 2 ^ 125) ∧
    (floatVal b ≤ -2 ^ 149 → toFixed b = 0x80000000#32) ∧
    ¬ (-2 ^ 149 - 2 ^ 126 < floatVal b ∧ floatVal b < -2 ^ 149)) ∧
  toFixed 0x3F800000#32 = 0x7FFFFF00#32 ∧ toFixed 0x40000000#32 = 0x7FFFFF00#32 ∧
  toFixed 0x7F800000#32 = 0x7FFFFF00#32 ∧ toFixed 0x3F7FFFFF#32 = 0x7FFFFF00#32

/-- R138, R139: every result of toFixed is n x 2^8 with n in the 24-bit range, low byte 0; zeros, subnormals, infinities and NaNs. -/
def Obligations.ToFixedFormatAndSpecialInputs : Prop :=
  (∀ b : Word, (toFixed b).extractLsb' 0 8 = 0#8 ∧
    ∃ n : Int, -2 ^ 23 ≤ n ∧ n ≤ 2 ^ 23 - 1 ∧ (toFixed b).toInt = n * 2 ^ 8) ∧
  (∀ b : Word, floatExp b = 0 →
    (floatVal b).natAbs < 2 ^ 23 ∧ (floatVal b + 2 ^ 125) / 2 ^ 126 = 0 ∧ toFixed b = 0x00000000#32) ∧
  (toFixed 0x7F800000#32 = 0x7FFFFF00#32 ∧ toFixed 0xFF800000#32 = 0x80000000#32) ∧
  (∀ b : Word, floatExp b = 0xFF → floatFrac b ≠ 0 → toFixed b = 0x00000000#32)

/-- R141: the round-trip laws. -/
def Obligations.ConversionRoundTrip : Prop :=
  (∀ w : Word, w.extractLsb' 0 8 = 0#8 → toFixed (toFloat w) = w) ∧
  (∀ b : Word, isNaN b = false → isInf b = false →
    -2 ^ 149 ≤ floatVal b → floatVal b < 2 ^ 149 - 2 ^ 125 →
    ∃ n : Int, toFixed b = fixedWord n ∧ floatVal (toFloat (toFixed b)) = n * 2 ^ 126 ∧
      (n * 2 ^ 126 - floatVal b).natAbs ≤ 2 ^ 125) ∧
  (∀ b : Word, isNaN b = false → isInf b = false →
    2 ^ 149 - 2 ^ 125 ≤ floatVal b → floatVal b < 2 ^ 149 →
    floatVal (toFloat (toFixed b)) = 2 ^ 149 - 2 ^ 126 ∧
      (floatVal (toFloat (toFixed b)) - floatVal b).natAbs < 2 ^ 126)
end

