-- ==== Sys2Proof/Laws/Memory.lean ====
section
/-! SUPPORT. The laws of the stored buffers: a read after a write, and the canonical form, which every write keeps. -/

namespace Sys2Proof.Machine

theorem readByte_below {lo a : Nat} (h : a < lo) (m : Memory) (hm : canonicalFrom lo m = true) :
    readByte m a = unlistedByte := by
  induction m generalizing lo with
  | nil => rfl
  | cons c rest ih =>
    obtain ⟨x, b⟩ := c
    simp only [canonicalFrom, Bool.and_eq_true, decide_eq_true_eq] at hm
    have hx : x ≠ a := by omega
    simp only [readByte, if_neg hx]
    exact ih (by omega) hm.2

theorem readByte_writeByte_of_ne (m : Memory) {a b : Nat} (v : Byte) (h : b ≠ a) :
    readByte (writeByte m a v) b = readByte m b := by
  have h' : a ≠ b := h.symm
  induction m with
  | nil => by_cases hv : v = unlistedByte <;> simp [writeByte, readByte, hv, h']
  | cons c rest ih =>
    obtain ⟨x, w⟩ := c
    by_cases h1 : a < x
    · by_cases hv : v = unlistedByte <;> simp [writeByte, readByte, h1, hv, h']
    · by_cases h2 : a = x
      · subst h2
        by_cases hv : v = unlistedByte <;> simp [writeByte, readByte, hv, h']
      · simp [writeByte, readByte, h1, h2, ih]

theorem readByte_writeByte_self {lo a : Nat} (m : Memory) (v : Byte) (hm : canonicalFrom lo m = true) :
    readByte (writeByte m a v) a = v := by
  induction m generalizing lo with
  | nil => by_cases hv : v = unlistedByte <;> simp [writeByte, readByte, hv]
  | cons c rest ih =>
    obtain ⟨x, w⟩ := c
    have hc := hm
    simp only [canonicalFrom, Bool.and_eq_true, decide_eq_true_eq] at hc
    by_cases h1 : a < x
    · by_cases hv : v = unlistedByte
      · have hx : x ≠ a := by omega
        simp [writeByte, readByte, h1, hv, hx, readByte_below (show a < x + 1 by omega) rest hc.2]
      · simp [writeByte, readByte, h1, hv]
    · by_cases h2 : a = x
      · subst h2
        by_cases hv : v = unlistedByte
        · simp [writeByte, hv, readByte_below (Nat.lt_succ_self a) rest hc.2]
        · simp [writeByte, readByte, hv]
      · have hx : x ≠ a := fun e => h2 e.symm
        simp [writeByte, readByte, h1, h2, hx, ih hc.2]

theorem canonicalFrom_mono {lo lo' : Nat} (h : lo' ≤ lo) (m : Memory) (hm : canonicalFrom lo m = true) :
    canonicalFrom lo' m = true := by
  cases m with
  | nil => rfl
  | cons c rest =>
    obtain ⟨x, b⟩ := c
    simp only [canonicalFrom, Bool.and_eq_true, decide_eq_true_eq] at hm ⊢
    exact ⟨⟨by omega, hm.1.2⟩, hm.2⟩

theorem canonicalFrom_writeByte {lo a : Nat} (m : Memory) (v : Byte) (h : lo ≤ a)
    (hm : canonicalFrom lo m = true) : canonicalFrom lo (writeByte m a v) = true := by
  induction m generalizing lo with
  | nil => by_cases hv : v = unlistedByte <;> simp [writeByte, canonicalFrom, hv, h]
  | cons c rest ih =>
    obtain ⟨x, w⟩ := c
    have hc := hm
    simp only [canonicalFrom, Bool.and_eq_true, decide_eq_true_eq] at hc
    obtain ⟨⟨hlx, hw⟩, hrest⟩ := hc
    by_cases h1 : a < x
    · by_cases hv : v = unlistedByte
      · simpa [writeByte, h1, hv] using hm
      · simp [writeByte, h1, hv, canonicalFrom, h, hw, hrest]
    · by_cases h2 : a = x
      · subst h2
        by_cases hv : v = unlistedByte
        · simpa [writeByte, hv] using canonicalFrom_mono (show lo ≤ a + 1 by omega) rest hrest
        · simp [writeByte, hv, canonicalFrom, hlx, hrest]
      · simp [writeByte, h1, h2, canonicalFrom, hlx, hw, ih (show x + 1 ≤ a by omega) hrest]

/-- A byte write keeps the canonical form. -/
theorem wf_writeByte (m : Memory) (a : Nat) (v : Byte) (hm : Memory.wf m = true) :
    Memory.wf (writeByte m a v) = true :=
  canonicalFrom_writeByte m v (Nat.zero_le a) hm

/-- A word write keeps the canonical form. -/
theorem wf_writeWord (m : Memory) (a : Nat) (v : Word) (hm : Memory.wf m = true) :
    Memory.wf (writeWord m a v) = true := by
  unfold writeWord
  exact wf_writeByte _ _ _ (wf_writeByte _ _ _ (wf_writeByte _ _ _ (wf_writeByte _ _ _ hm)))

theorem wf_zeroed : Memory.wf zeroed = true := rfl

/-- A word write leaves every byte outside its four alone. -/
theorem readByte_writeWord_other (m : Memory) {a b : Nat} (v : Word) (h : b < a ∨ a + 4 ≤ b) :
    readByte (writeWord m a v) b = readByte m b := by
  unfold writeWord
  rw [readByte_writeByte_of_ne _ _ (by omega), readByte_writeByte_of_ne _ _ (by omega),
    readByte_writeByte_of_ne _ _ (by omega), readByte_writeByte_of_ne _ _ (by omega)]

/-- A word write leaves every word that does not overlap it alone. -/
theorem readWord_writeWord_other (m : Memory) {a b : Nat} (v : Word) (h : b + 4 ≤ a ∨ a + 4 ≤ b) :
    readWord (writeWord m a v) b = readWord m b := by
  unfold readWord
  rw [readByte_writeWord_other m v (by omega), readByte_writeWord_other m v (by omega),
    readByte_writeWord_other m v (by omega), readByte_writeWord_other m v (by omega)]

theorem bytes_append (v : Word) :
    (v.extractLsb' 24 8 ++ v.extractLsb' 16 8 ++ v.extractLsb' 8 8 ++ v.extractLsb' 0 8 : BitVec 32) = v := by
  ext i hi
  simp only [BitVec.getElem_append, BitVec.getElem_extractLsb']
  split <;> rename_i h1
  · simp [BitVec.getLsbD_eq_getElem hi]
  · split <;> rename_i h2
    · rw [show 8 + (i - 8) = i by omega, BitVec.getLsbD_eq_getElem hi]
    · split <;> rename_i h3
      · rw [show 16 + (i - 8 - 8) = i by omega, BitVec.getLsbD_eq_getElem hi]
      · rw [show 24 + (i - 8 - 8 - 8) = i by omega, BitVec.getLsbD_eq_getElem hi]

/-- A word read after a word write to the same place gives the word written. -/
theorem readWord_writeWord_self (m : Memory) (a : Nat) (v : Word) (hm : Memory.wf m = true) :
    readWord (writeWord m a v) a = v := by
  have h1 := wf_writeByte m a (v.extractLsb' 0 8) hm
  have h2 := wf_writeByte _ (a + 1) (v.extractLsb' 8 8) h1
  have h3 := wf_writeByte _ (a + 2) (v.extractLsb' 16 8) h2
  unfold readWord writeWord
  rw [readByte_writeByte_self _ _ h3,
    readByte_writeByte_of_ne _ _ (show a + 2 ≠ a + 3 by omega), readByte_writeByte_self _ _ h2,
    readByte_writeByte_of_ne _ _ (show a + 1 ≠ a + 3 by omega),
    readByte_writeByte_of_ne _ _ (show a + 1 ≠ a + 2 by omega), readByte_writeByte_self _ _ h1,
    readByte_writeByte_of_ne _ _ (show a ≠ a + 3 by omega),
    readByte_writeByte_of_ne _ _ (show a ≠ a + 2 by omega),
    readByte_writeByte_of_ne _ _ (show a ≠ a + 1 by omega), readByte_writeByte_self _ _ hm]
  exact bytes_append v

/-- A byte write lists no address but its own and those already listed. -/
theorem mem_writeByte (m : Memory) (a : Nat) (v : Byte) {c : Host.Cell} (h : c ∈ writeByte m a v) :
    c ∈ m ∨ c.1 = a := by
  induction m with
  | nil =>
    by_cases hv : v = unlistedByte
    · simp [writeByte, hv] at h
    · simp [writeByte, hv] at h; exact .inr (by rw [h])
  | cons d rest ih =>
    obtain ⟨x, w⟩ := d
    by_cases h1 : a < x
    · by_cases hv : v = unlistedByte
      · exact .inl (by simpa [writeByte, h1, hv] using h)
      · simp only [writeByte, h1, hv, if_true, if_false, List.mem_cons] at h
        rcases h with rfl | h
        · exact .inr rfl
        · exact .inl (by simpa using h)
    · by_cases h2 : a = x
      · subst h2
        by_cases hv : v = unlistedByte
        · exact .inl (by simp [writeByte, hv] at h; simp [h])
        · simp only [writeByte, hv, lt_irrefl, if_true, if_false, List.mem_cons] at h
          rcases h with rfl | h
          · exact .inr rfl
          · exact .inl (by simp [h])
      · simp only [writeByte, h1, h2, if_false, List.mem_cons] at h
        rcases h with rfl | h
        · exact .inl (by simp)
        · rcases ih h with h | h
          · exact .inl (by simp [h])
          · exact .inr h

/-- A word write within `n` bytes keeps every listed address below `n`. -/
theorem writeWord_below (m : Memory) (a : Nat) (v : Word) {n : Nat} (ha : a + 4 ≤ n)
    (hm : ∀ c ∈ m, c.1 < n) : ∀ c ∈ writeWord m a v, c.1 < n := by
  have key : ∀ (m : Memory) (b : Nat) (w : Byte), b < n → (∀ c ∈ m, c.1 < n) →
      ∀ c ∈ writeByte m b w, c.1 < n := by
    intro m b w hb hm c hc
    rcases mem_writeByte m b w hc with h | h
    · exact hm c h
    · omega
  unfold writeWord
  exact key _ _ _ (by omega) (key _ _ _ (by omega) (key _ _ _ (by omega) (key _ _ _ (by omega) hm)))

/-- Every word of a zeroed buffer is 0. -/
theorem readWord_zeroed (a : Nat) : readWord zeroed a = 0#32 := by
  simp only [readWord, zeroed, readByte, unlistedByte]
  decide

/-- Distinct buffer words do not overlap. -/
theorem wordAddr_disjoint {i j : Nat} (h : i ≠ j) :
    wordAddr i + 4 ≤ wordAddr j ∨ wordAddr j + 4 ≤ wordAddr i := by
  unfold wordAddr
  omega

end Sys2Proof.Machine
end

