-- ==== Sys2Proof/Laws/State.lean ====
section
/-! SUPPORT. What each field is after each shared update: one lemma per field per update, so that no proof unfolds one. -/

namespace Sys2Proof.Machine

/-! ### raiseError -/

@[simp] theorem raiseError_params (c : ErrCause) (s : State) : (raiseError c s).params = s.params := rfl
@[simp] theorem raiseError_life (c : ErrCause) (s : State) : (raiseError c s).life = s.life := rfl
@[simp] theorem raiseError_cfgBusy (c : ErrCause) (s : State) : (raiseError c s).cfgBusy = s.cfgBusy := rfl
@[simp] theorem raiseError_rdBusy (c : ErrCause) (s : State) : (raiseError c s).rdBusy = s.rdBusy := rfl
@[simp] theorem raiseError_wrBusy (c : ErrCause) (s : State) : (raiseError c s).wrBusy = s.wrBusy := rfl
@[simp] theorem raiseError_pwr (c : ErrCause) (s : State) : (raiseError c s).pwr = s.pwr := rfl
@[simp] theorem raiseError_mclkEn (c : ErrCause) (s : State) : (raiseError c s).mclkEn = s.mclkEn := rfl
@[simp] theorem raiseError_err (c : ErrCause) (s : State) : (raiseError c s).err = setBit s.err (errBit c) := rfl
@[simp] theorem raiseError_irqPend (c : ErrCause) (s : State) : (raiseError c s).irqPend = setBit s.irqPend irqErr := rfl
@[simp] theorem raiseError_irqEn (c : ErrCause) (s : State) : (raiseError c s).irqEn = s.irqEn := rfl
@[simp] theorem raiseError_cfgRate (c : ErrCause) (s : State) : (raiseError c s).cfgRate = s.cfgRate := rfl
@[simp] theorem raiseError_cfgChan (c : ErrCause) (s : State) : (raiseError c s).cfgChan = s.cfgChan := rfl
@[simp] theorem raiseError_cfgBlock (c : ErrCause) (s : State) : (raiseError c s).cfgBlock = s.cfgBlock := rfl
@[simp] theorem raiseError_cfgBus (c : ErrCause) (s : State) : (raiseError c s).cfgBus = s.cfgBus := rfl
@[simp] theorem raiseError_cfgMaster (c : ErrCause) (s : State) : (raiseError c s).cfgMaster = s.cfgMaster := rfl
@[simp] theorem raiseError_mclkHz (c : ErrCause) (s : State) : (raiseError c s).mclkHz = s.mclkHz := rfl
@[simp] theorem raiseError_nActive (c : ErrCause) (s : State) : (raiseError c s).nActive = s.nActive := rfl
@[simp] theorem raiseError_cfgErr (c : ErrCause) (s : State) : (raiseError c s).cfgErr = s.cfgErr := rfl
@[simp] theorem raiseError_cfgSum (c : ErrCause) (s : State) : (raiseError c s).cfgSum = s.cfgSum := rfl
@[simp] theorem raiseError_rdStat (c : ErrCause) (s : State) : (raiseError c s).rdStat = s.rdStat := rfl
@[simp] theorem raiseError_rptr (c : ErrCause) (s : State) : (raiseError c s).rptr = s.rptr := rfl
@[simp] theorem raiseError_wrStat (c : ErrCause) (s : State) : (raiseError c s).wrStat = s.wrStat := rfl
@[simp] theorem raiseError_wptr (c : ErrCause) (s : State) : (raiseError c s).wptr = s.wptr := rfl
@[simp] theorem raiseError_cvtFixIn (c : ErrCause) (s : State) : (raiseError c s).cvtFixIn = s.cvtFixIn := rfl
@[simp] theorem raiseError_cvtFltIn (c : ErrCause) (s : State) : (raiseError c s).cvtFltIn = s.cvtFltIn := rfl
@[simp] theorem raiseError_tmr (c : ErrCause) (s : State) : (raiseError c s).tmr = s.tmr := rfl
@[simp] theorem raiseError_cfgStage (c : ErrCause) (s : State) : (raiseError c s).cfgStage = s.cfgStage := rfl
@[simp] theorem raiseError_req (c : ErrCause) (s : State) : (raiseError c s).req = s.req := rfl
@[simp] theorem raiseError_rbuf (c : ErrCause) (s : State) : (raiseError c s).rbuf = s.rbuf := rfl
@[simp] theorem raiseError_wbuf (c : ErrCause) (s : State) : (raiseError c s).wbuf = s.wbuf := rfl
@[simp] theorem raiseError_busRdata (c : ErrCause) (s : State) : (raiseError c s).busRdata = s.busRdata := rfl
@[simp] theorem raiseError_busErr (c : ErrCause) (s : State) : (raiseError c s).busErr = true := rfl
@[simp] theorem raiseError_out (c : ErrCause) (s : State) : (raiseError c s).out = s.out := rfl
@[simp] theorem raiseError_cycle (c : ErrCause) (s : State) : (raiseError c s).cycle = s.cycle := rfl
@[simp] theorem raiseError_host (c : ErrCause) (s : State) : (raiseError c s).host = s.host := rfl
@[simp] theorem raiseError_agents (c : ErrCause) (s : State) : (raiseError c s).agents = s.agents := rfl

/-! ### respondRead -/

@[simp] theorem respondRead_params (v : Word) (s : State) : (respondRead v s).params = s.params := rfl
@[simp] theorem respondRead_life (v : Word) (s : State) : (respondRead v s).life = s.life := rfl
@[simp] theorem respondRead_cfgBusy (v : Word) (s : State) : (respondRead v s).cfgBusy = s.cfgBusy := rfl
@[simp] theorem respondRead_rdBusy (v : Word) (s : State) : (respondRead v s).rdBusy = s.rdBusy := rfl
@[simp] theorem respondRead_wrBusy (v : Word) (s : State) : (respondRead v s).wrBusy = s.wrBusy := rfl
@[simp] theorem respondRead_pwr (v : Word) (s : State) : (respondRead v s).pwr = s.pwr := rfl
@[simp] theorem respondRead_mclkEn (v : Word) (s : State) : (respondRead v s).mclkEn = s.mclkEn := rfl
@[simp] theorem respondRead_err (v : Word) (s : State) : (respondRead v s).err = s.err := rfl
@[simp] theorem respondRead_irqPend (v : Word) (s : State) : (respondRead v s).irqPend = s.irqPend := rfl
@[simp] theorem respondRead_irqEn (v : Word) (s : State) : (respondRead v s).irqEn = s.irqEn := rfl
@[simp] theorem respondRead_cfgRate (v : Word) (s : State) : (respondRead v s).cfgRate = s.cfgRate := rfl
@[simp] theorem respondRead_cfgChan (v : Word) (s : State) : (respondRead v s).cfgChan = s.cfgChan := rfl
@[simp] theorem respondRead_cfgBlock (v : Word) (s : State) : (respondRead v s).cfgBlock = s.cfgBlock := rfl
@[simp] theorem respondRead_cfgBus (v : Word) (s : State) : (respondRead v s).cfgBus = s.cfgBus := rfl
@[simp] theorem respondRead_cfgMaster (v : Word) (s : State) : (respondRead v s).cfgMaster = s.cfgMaster := rfl
@[simp] theorem respondRead_mclkHz (v : Word) (s : State) : (respondRead v s).mclkHz = s.mclkHz := rfl
@[simp] theorem respondRead_nActive (v : Word) (s : State) : (respondRead v s).nActive = s.nActive := rfl
@[simp] theorem respondRead_cfgErr (v : Word) (s : State) : (respondRead v s).cfgErr = s.cfgErr := rfl
@[simp] theorem respondRead_cfgSum (v : Word) (s : State) : (respondRead v s).cfgSum = s.cfgSum := rfl
@[simp] theorem respondRead_rdStat (v : Word) (s : State) : (respondRead v s).rdStat = s.rdStat := rfl
@[simp] theorem respondRead_rptr (v : Word) (s : State) : (respondRead v s).rptr = s.rptr := rfl
@[simp] theorem respondRead_wrStat (v : Word) (s : State) : (respondRead v s).wrStat = s.wrStat := rfl
@[simp] theorem respondRead_wptr (v : Word) (s : State) : (respondRead v s).wptr = s.wptr := rfl
@[simp] theorem respondRead_cvtFixIn (v : Word) (s : State) : (respondRead v s).cvtFixIn = s.cvtFixIn := rfl
@[simp] theorem respondRead_cvtFltIn (v : Word) (s : State) : (respondRead v s).cvtFltIn = s.cvtFltIn := rfl
@[simp] theorem respondRead_tmr (v : Word) (s : State) : (respondRead v s).tmr = s.tmr := rfl
@[simp] theorem respondRead_cfgStage (v : Word) (s : State) : (respondRead v s).cfgStage = s.cfgStage := rfl
@[simp] theorem respondRead_req (v : Word) (s : State) : (respondRead v s).req = s.req := rfl
@[simp] theorem respondRead_rbuf (v : Word) (s : State) : (respondRead v s).rbuf = s.rbuf := rfl
@[simp] theorem respondRead_wbuf (v : Word) (s : State) : (respondRead v s).wbuf = s.wbuf := rfl
@[simp] theorem respondRead_busRdata (v : Word) (s : State) : (respondRead v s).busRdata = v := rfl
@[simp] theorem respondRead_busErr (v : Word) (s : State) : (respondRead v s).busErr = false := rfl
@[simp] theorem respondRead_out (v : Word) (s : State) : (respondRead v s).out = s.out := rfl
@[simp] theorem respondRead_cycle (v : Word) (s : State) : (respondRead v s).cycle = s.cycle := rfl
@[simp] theorem respondRead_host (v : Word) (s : State) : (respondRead v s).host = s.host := rfl
@[simp] theorem respondRead_agents (v : Word) (s : State) : (respondRead v s).agents = s.agents := rfl

/-! ### respondWrite -/

@[simp] theorem respondWrite_params (s : State) : (respondWrite s).params = s.params := rfl
@[simp] theorem respondWrite_life (s : State) : (respondWrite s).life = s.life := rfl
@[simp] theorem respondWrite_cfgBusy (s : State) : (respondWrite s).cfgBusy = s.cfgBusy := rfl
@[simp] theorem respondWrite_rdBusy (s : State) : (respondWrite s).rdBusy = s.rdBusy := rfl
@[simp] theorem respondWrite_wrBusy (s : State) : (respondWrite s).wrBusy = s.wrBusy := rfl
@[simp] theorem respondWrite_pwr (s : State) : (respondWrite s).pwr = s.pwr := rfl
@[simp] theorem respondWrite_mclkEn (s : State) : (respondWrite s).mclkEn = s.mclkEn := rfl
@[simp] theorem respondWrite_err (s : State) : (respondWrite s).err = s.err := rfl
@[simp] theorem respondWrite_irqPend (s : State) : (respondWrite s).irqPend = s.irqPend := rfl
@[simp] theorem respondWrite_irqEn (s : State) : (respondWrite s).irqEn = s.irqEn := rfl
@[simp] theorem respondWrite_cfgRate (s : State) : (respondWrite s).cfgRate = s.cfgRate := rfl
@[simp] theorem respondWrite_cfgChan (s : State) : (respondWrite s).cfgChan = s.cfgChan := rfl
@[simp] theorem respondWrite_cfgBlock (s : State) : (respondWrite s).cfgBlock = s.cfgBlock := rfl
@[simp] theorem respondWrite_cfgBus (s : State) : (respondWrite s).cfgBus = s.cfgBus := rfl
@[simp] theorem respondWrite_cfgMaster (s : State) : (respondWrite s).cfgMaster = s.cfgMaster := rfl
@[simp] theorem respondWrite_mclkHz (s : State) : (respondWrite s).mclkHz = s.mclkHz := rfl
@[simp] theorem respondWrite_nActive (s : State) : (respondWrite s).nActive = s.nActive := rfl
@[simp] theorem respondWrite_cfgErr (s : State) : (respondWrite s).cfgErr = s.cfgErr := rfl
@[simp] theorem respondWrite_cfgSum (s : State) : (respondWrite s).cfgSum = s.cfgSum := rfl
@[simp] theorem respondWrite_rdStat (s : State) : (respondWrite s).rdStat = s.rdStat := rfl
@[simp] theorem respondWrite_rptr (s : State) : (respondWrite s).rptr = s.rptr := rfl
@[simp] theorem respondWrite_wrStat (s : State) : (respondWrite s).wrStat = s.wrStat := rfl
@[simp] theorem respondWrite_wptr (s : State) : (respondWrite s).wptr = s.wptr := rfl
@[simp] theorem respondWrite_cvtFixIn (s : State) : (respondWrite s).cvtFixIn = s.cvtFixIn := rfl
@[simp] theorem respondWrite_cvtFltIn (s : State) : (respondWrite s).cvtFltIn = s.cvtFltIn := rfl
@[simp] theorem respondWrite_tmr (s : State) : (respondWrite s).tmr = s.tmr := rfl
@[simp] theorem respondWrite_cfgStage (s : State) : (respondWrite s).cfgStage = s.cfgStage := rfl
@[simp] theorem respondWrite_req (s : State) : (respondWrite s).req = s.req := rfl
@[simp] theorem respondWrite_rbuf (s : State) : (respondWrite s).rbuf = s.rbuf := rfl
@[simp] theorem respondWrite_wbuf (s : State) : (respondWrite s).wbuf = s.wbuf := rfl
@[simp] theorem respondWrite_busRdata (s : State) : (respondWrite s).busRdata = Config.freeBusRdata s.cycle := rfl
@[simp] theorem respondWrite_busErr (s : State) : (respondWrite s).busErr = false := rfl
@[simp] theorem respondWrite_out (s : State) : (respondWrite s).out = s.out := rfl
@[simp] theorem respondWrite_cycle (s : State) : (respondWrite s).cycle = s.cycle := rfl
@[simp] theorem respondWrite_host (s : State) : (respondWrite s).host = s.host := rfl
@[simp] theorem respondWrite_agents (s : State) : (respondWrite s).agents = s.agents := rfl

/-! ### storeRbuf -/

@[simp] theorem storeRbuf_params (i : Nat) (v : Word) (s : State) : (storeRbuf i v s).params = s.params := rfl
@[simp] theorem storeRbuf_life (i : Nat) (v : Word) (s : State) : (storeRbuf i v s).life = s.life := rfl
@[simp] theorem storeRbuf_cfgBusy (i : Nat) (v : Word) (s : State) : (storeRbuf i v s).cfgBusy = s.cfgBusy := rfl
@[simp] theorem storeRbuf_rdBusy (i : Nat) (v : Word) (s : State) : (storeRbuf i v s).rdBusy = s.rdBusy := rfl
@[simp] theorem storeRbuf_wrBusy (i : Nat) (v : Word) (s : State) : (storeRbuf i v s).wrBusy = s.wrBusy := rfl
@[simp] theorem storeRbuf_pwr (i : Nat) (v : Word) (s : State) : (storeRbuf i v s).pwr = s.pwr := rfl
@[simp] theorem storeRbuf_mclkEn (i : Nat) (v : Word) (s : State) : (storeRbuf i v s).mclkEn = s.mclkEn := rfl
@[simp] theorem storeRbuf_err (i : Nat) (v : Word) (s : State) : (storeRbuf i v s).err = s.err := rfl
@[simp] theorem storeRbuf_irqPend (i : Nat) (v : Word) (s : State) : (storeRbuf i v s).irqPend = s.irqPend := rfl
@[simp] theorem storeRbuf_irqEn (i : Nat) (v : Word) (s : State) : (storeRbuf i v s).irqEn = s.irqEn := rfl
@[simp] theorem storeRbuf_cfgRate (i : Nat) (v : Word) (s : State) : (storeRbuf i v s).cfgRate = s.cfgRate := rfl
@[simp] theorem storeRbuf_cfgChan (i : Nat) (v : Word) (s : State) : (storeRbuf i v s).cfgChan = s.cfgChan := rfl
@[simp] theorem storeRbuf_cfgBlock (i : Nat) (v : Word) (s : State) : (storeRbuf i v s).cfgBlock = s.cfgBlock := rfl
@[simp] theorem storeRbuf_cfgBus (i : Nat) (v : Word) (s : State) : (storeRbuf i v s).cfgBus = s.cfgBus := rfl
@[simp] theorem storeRbuf_cfgMaster (i : Nat) (v : Word) (s : State) : (storeRbuf i v s).cfgMaster = s.cfgMaster := rfl
@[simp] theorem storeRbuf_mclkHz (i : Nat) (v : Word) (s : State) : (storeRbuf i v s).mclkHz = s.mclkHz := rfl
@[simp] theorem storeRbuf_nActive (i : Nat) (v : Word) (s : State) : (storeRbuf i v s).nActive = s.nActive := rfl
@[simp] theorem storeRbuf_cfgErr (i : Nat) (v : Word) (s : State) : (storeRbuf i v s).cfgErr = s.cfgErr := rfl
@[simp] theorem storeRbuf_cfgSum (i : Nat) (v : Word) (s : State) : (storeRbuf i v s).cfgSum = s.cfgSum := rfl
@[simp] theorem storeRbuf_rdStat (i : Nat) (v : Word) (s : State) : (storeRbuf i v s).rdStat = s.rdStat := rfl
@[simp] theorem storeRbuf_rptr (i : Nat) (v : Word) (s : State) : (storeRbuf i v s).rptr = s.rptr := rfl
@[simp] theorem storeRbuf_wrStat (i : Nat) (v : Word) (s : State) : (storeRbuf i v s).wrStat = s.wrStat := rfl
@[simp] theorem storeRbuf_wptr (i : Nat) (v : Word) (s : State) : (storeRbuf i v s).wptr = s.wptr := rfl
@[simp] theorem storeRbuf_cvtFixIn (i : Nat) (v : Word) (s : State) : (storeRbuf i v s).cvtFixIn = s.cvtFixIn := rfl
@[simp] theorem storeRbuf_cvtFltIn (i : Nat) (v : Word) (s : State) : (storeRbuf i v s).cvtFltIn = s.cvtFltIn := rfl
@[simp] theorem storeRbuf_tmr (i : Nat) (v : Word) (s : State) : (storeRbuf i v s).tmr = s.tmr := rfl
@[simp] theorem storeRbuf_cfgStage (i : Nat) (v : Word) (s : State) : (storeRbuf i v s).cfgStage = s.cfgStage := rfl
@[simp] theorem storeRbuf_req (i : Nat) (v : Word) (s : State) : (storeRbuf i v s).req = s.req := rfl
@[simp] theorem storeRbuf_rbuf (i : Nat) (v : Word) (s : State) : (storeRbuf i v s).rbuf = writeWord s.rbuf (wordAddr i) v := rfl
@[simp] theorem storeRbuf_wbuf (i : Nat) (v : Word) (s : State) : (storeRbuf i v s).wbuf = s.wbuf := rfl
@[simp] theorem storeRbuf_busRdata (i : Nat) (v : Word) (s : State) : (storeRbuf i v s).busRdata = s.busRdata := rfl
@[simp] theorem storeRbuf_busErr (i : Nat) (v : Word) (s : State) : (storeRbuf i v s).busErr = s.busErr := rfl
@[simp] theorem storeRbuf_out (i : Nat) (v : Word) (s : State) : (storeRbuf i v s).out = s.out := rfl
@[simp] theorem storeRbuf_cycle (i : Nat) (v : Word) (s : State) : (storeRbuf i v s).cycle = s.cycle := rfl
@[simp] theorem storeRbuf_host (i : Nat) (v : Word) (s : State) : (storeRbuf i v s).host = s.host := rfl
@[simp] theorem storeRbuf_agents (i : Nat) (v : Word) (s : State) : (storeRbuf i v s).agents = s.agents := rfl

/-! ### storeWbuf -/

@[simp] theorem storeWbuf_params (i : Nat) (v : Word) (s : State) : (storeWbuf i v s).params = s.params := rfl
@[simp] theorem storeWbuf_life (i : Nat) (v : Word) (s : State) : (storeWbuf i v s).life = s.life := rfl
@[simp] theorem storeWbuf_cfgBusy (i : Nat) (v : Word) (s : State) : (storeWbuf i v s).cfgBusy = s.cfgBusy := rfl
@[simp] theorem storeWbuf_rdBusy (i : Nat) (v : Word) (s : State) : (storeWbuf i v s).rdBusy = s.rdBusy := rfl
@[simp] theorem storeWbuf_wrBusy (i : Nat) (v : Word) (s : State) : (storeWbuf i v s).wrBusy = s.wrBusy := rfl
@[simp] theorem storeWbuf_pwr (i : Nat) (v : Word) (s : State) : (storeWbuf i v s).pwr = s.pwr := rfl
@[simp] theorem storeWbuf_mclkEn (i : Nat) (v : Word) (s : State) : (storeWbuf i v s).mclkEn = s.mclkEn := rfl
@[simp] theorem storeWbuf_err (i : Nat) (v : Word) (s : State) : (storeWbuf i v s).err = s.err := rfl
@[simp] theorem storeWbuf_irqPend (i : Nat) (v : Word) (s : State) : (storeWbuf i v s).irqPend = s.irqPend := rfl
@[simp] theorem storeWbuf_irqEn (i : Nat) (v : Word) (s : State) : (storeWbuf i v s).irqEn = s.irqEn := rfl
@[simp] theorem storeWbuf_cfgRate (i : Nat) (v : Word) (s : State) : (storeWbuf i v s).cfgRate = s.cfgRate := rfl
@[simp] theorem storeWbuf_cfgChan (i : Nat) (v : Word) (s : State) : (storeWbuf i v s).cfgChan = s.cfgChan := rfl
@[simp] theorem storeWbuf_cfgBlock (i : Nat) (v : Word) (s : State) : (storeWbuf i v s).cfgBlock = s.cfgBlock := rfl
@[simp] theorem storeWbuf_cfgBus (i : Nat) (v : Word) (s : State) : (storeWbuf i v s).cfgBus = s.cfgBus := rfl
@[simp] theorem storeWbuf_cfgMaster (i : Nat) (v : Word) (s : State) : (storeWbuf i v s).cfgMaster = s.cfgMaster := rfl
@[simp] theorem storeWbuf_mclkHz (i : Nat) (v : Word) (s : State) : (storeWbuf i v s).mclkHz = s.mclkHz := rfl
@[simp] theorem storeWbuf_nActive (i : Nat) (v : Word) (s : State) : (storeWbuf i v s).nActive = s.nActive := rfl
@[simp] theorem storeWbuf_cfgErr (i : Nat) (v : Word) (s : State) : (storeWbuf i v s).cfgErr = s.cfgErr := rfl
@[simp] theorem storeWbuf_cfgSum (i : Nat) (v : Word) (s : State) : (storeWbuf i v s).cfgSum = s.cfgSum := rfl
@[simp] theorem storeWbuf_rdStat (i : Nat) (v : Word) (s : State) : (storeWbuf i v s).rdStat = s.rdStat := rfl
@[simp] theorem storeWbuf_rptr (i : Nat) (v : Word) (s : State) : (storeWbuf i v s).rptr = s.rptr := rfl
@[simp] theorem storeWbuf_wrStat (i : Nat) (v : Word) (s : State) : (storeWbuf i v s).wrStat = s.wrStat := rfl
@[simp] theorem storeWbuf_wptr (i : Nat) (v : Word) (s : State) : (storeWbuf i v s).wptr = s.wptr := rfl
@[simp] theorem storeWbuf_cvtFixIn (i : Nat) (v : Word) (s : State) : (storeWbuf i v s).cvtFixIn = s.cvtFixIn := rfl
@[simp] theorem storeWbuf_cvtFltIn (i : Nat) (v : Word) (s : State) : (storeWbuf i v s).cvtFltIn = s.cvtFltIn := rfl
@[simp] theorem storeWbuf_tmr (i : Nat) (v : Word) (s : State) : (storeWbuf i v s).tmr = s.tmr := rfl
@[simp] theorem storeWbuf_cfgStage (i : Nat) (v : Word) (s : State) : (storeWbuf i v s).cfgStage = s.cfgStage := rfl
@[simp] theorem storeWbuf_req (i : Nat) (v : Word) (s : State) : (storeWbuf i v s).req = s.req := rfl
@[simp] theorem storeWbuf_rbuf (i : Nat) (v : Word) (s : State) : (storeWbuf i v s).rbuf = s.rbuf := rfl
@[simp] theorem storeWbuf_wbuf (i : Nat) (v : Word) (s : State) : (storeWbuf i v s).wbuf = writeWord s.wbuf (wordAddr i) v := rfl
@[simp] theorem storeWbuf_busRdata (i : Nat) (v : Word) (s : State) : (storeWbuf i v s).busRdata = s.busRdata := rfl
@[simp] theorem storeWbuf_busErr (i : Nat) (v : Word) (s : State) : (storeWbuf i v s).busErr = s.busErr := rfl
@[simp] theorem storeWbuf_out (i : Nat) (v : Word) (s : State) : (storeWbuf i v s).out = s.out := rfl
@[simp] theorem storeWbuf_cycle (i : Nat) (v : Word) (s : State) : (storeWbuf i v s).cycle = s.cycle := rfl
@[simp] theorem storeWbuf_host (i : Nat) (v : Word) (s : State) : (storeWbuf i v s).host = s.host := rfl
@[simp] theorem storeWbuf_agents (i : Nat) (v : Word) (s : State) : (storeWbuf i v s).agents = s.agents := rfl

/-! ### startConfig -/

@[simp] theorem startConfig_params (s : State) : (startConfig s).params = s.params := rfl
@[simp] theorem startConfig_life (s : State) : (startConfig s).life = s.life := rfl
@[simp] theorem startConfig_cfgBusy (s : State) : (startConfig s).cfgBusy = true := rfl
@[simp] theorem startConfig_rdBusy (s : State) : (startConfig s).rdBusy = s.rdBusy := rfl
@[simp] theorem startConfig_wrBusy (s : State) : (startConfig s).wrBusy = s.wrBusy := rfl
@[simp] theorem startConfig_pwr (s : State) : (startConfig s).pwr = s.pwr := rfl
@[simp] theorem startConfig_mclkEn (s : State) : (startConfig s).mclkEn = s.mclkEn := rfl
@[simp] theorem startConfig_err (s : State) : (startConfig s).err = s.err := rfl
@[simp] theorem startConfig_irqPend (s : State) : (startConfig s).irqPend = s.irqPend := rfl
@[simp] theorem startConfig_irqEn (s : State) : (startConfig s).irqEn = s.irqEn := rfl
@[simp] theorem startConfig_cfgRate (s : State) : (startConfig s).cfgRate = s.cfgRate := rfl
@[simp] theorem startConfig_cfgChan (s : State) : (startConfig s).cfgChan = s.cfgChan := rfl
@[simp] theorem startConfig_cfgBlock (s : State) : (startConfig s).cfgBlock = s.cfgBlock := rfl
@[simp] theorem startConfig_cfgBus (s : State) : (startConfig s).cfgBus = s.cfgBus := rfl
@[simp] theorem startConfig_cfgMaster (s : State) : (startConfig s).cfgMaster = s.cfgMaster := rfl
@[simp] theorem startConfig_mclkHz (s : State) : (startConfig s).mclkHz = s.mclkHz := rfl
@[simp] theorem startConfig_nActive (s : State) : (startConfig s).nActive = s.nActive := rfl
@[simp] theorem startConfig_cfgErr (s : State) : (startConfig s).cfgErr = 0#8 := rfl
@[simp] theorem startConfig_cfgSum (s : State) : (startConfig s).cfgSum = 0#32 := rfl
@[simp] theorem startConfig_rdStat (s : State) : (startConfig s).rdStat = 0#5 := rfl
@[simp] theorem startConfig_rptr (s : State) : (startConfig s).rptr = 0#32 := rfl
@[simp] theorem startConfig_wrStat (s : State) : (startConfig s).wrStat = 0#6 := rfl
@[simp] theorem startConfig_wptr (s : State) : (startConfig s).wptr = 0#32 := rfl
@[simp] theorem startConfig_cvtFixIn (s : State) : (startConfig s).cvtFixIn = s.cvtFixIn := rfl
@[simp] theorem startConfig_cvtFltIn (s : State) : (startConfig s).cvtFltIn = s.cvtFltIn := rfl
@[simp] theorem startConfig_tmr (s : State) : (startConfig s).tmr = 0#32 := rfl
@[simp] theorem startConfig_cfgStage (s : State) : (startConfig s).cfgStage = .validate := rfl
@[simp] theorem startConfig_req (s : State) : (startConfig s).req = s.req := rfl
@[simp] theorem startConfig_rbuf (s : State) : (startConfig s).rbuf = s.rbuf := rfl
@[simp] theorem startConfig_wbuf (s : State) : (startConfig s).wbuf = s.wbuf := rfl
@[simp] theorem startConfig_busRdata (s : State) : (startConfig s).busRdata = s.busRdata := rfl
@[simp] theorem startConfig_busErr (s : State) : (startConfig s).busErr = s.busErr := rfl
@[simp] theorem startConfig_out (s : State) : (startConfig s).out = s.out := rfl
@[simp] theorem startConfig_cycle (s : State) : (startConfig s).cycle = s.cycle := rfl
@[simp] theorem startConfig_host (s : State) : (startConfig s).host = s.host := rfl
@[simp] theorem startConfig_agents (s : State) : (startConfig s).agents = s.agents := rfl

/-! ### setPower -/

@[simp] theorem setPower_params (p : Bool) (s : State) : (setPower p s).params = s.params := rfl
@[simp] theorem setPower_life (p : Bool) (s : State) : (setPower p s).life = lifeAfterEnable p s.life := rfl
@[simp] theorem setPower_cfgBusy (p : Bool) (s : State) : (setPower p s).cfgBusy = s.cfgBusy := rfl
@[simp] theorem setPower_rdBusy (p : Bool) (s : State) : (setPower p s).rdBusy = s.rdBusy := rfl
@[simp] theorem setPower_wrBusy (p : Bool) (s : State) : (setPower p s).wrBusy = s.wrBusy := rfl
@[simp] theorem setPower_pwr (p : Bool) (s : State) : (setPower p s).pwr = p := rfl
@[simp] theorem setPower_mclkEn (p : Bool) (s : State) : (setPower p s).mclkEn = s.mclkEn := rfl
@[simp] theorem setPower_err (p : Bool) (s : State) : (setPower p s).err = s.err := rfl
@[simp] theorem setPower_irqPend (p : Bool) (s : State) : (setPower p s).irqPend = s.irqPend := rfl
@[simp] theorem setPower_irqEn (p : Bool) (s : State) : (setPower p s).irqEn = s.irqEn := rfl
@[simp] theorem setPower_cfgRate (p : Bool) (s : State) : (setPower p s).cfgRate = s.cfgRate := rfl
@[simp] theorem setPower_cfgChan (p : Bool) (s : State) : (setPower p s).cfgChan = s.cfgChan := rfl
@[simp] theorem setPower_cfgBlock (p : Bool) (s : State) : (setPower p s).cfgBlock = s.cfgBlock := rfl
@[simp] theorem setPower_cfgBus (p : Bool) (s : State) : (setPower p s).cfgBus = s.cfgBus := rfl
@[simp] theorem setPower_cfgMaster (p : Bool) (s : State) : (setPower p s).cfgMaster = s.cfgMaster := rfl
@[simp] theorem setPower_mclkHz (p : Bool) (s : State) : (setPower p s).mclkHz = s.mclkHz := rfl
@[simp] theorem setPower_nActive (p : Bool) (s : State) : (setPower p s).nActive = s.nActive := rfl
@[simp] theorem setPower_cfgErr (p : Bool) (s : State) : (setPower p s).cfgErr = s.cfgErr := rfl
@[simp] theorem setPower_cfgSum (p : Bool) (s : State) : (setPower p s).cfgSum = s.cfgSum := rfl
@[simp] theorem setPower_rdStat (p : Bool) (s : State) : (setPower p s).rdStat = s.rdStat := rfl
@[simp] theorem setPower_rptr (p : Bool) (s : State) : (setPower p s).rptr = s.rptr := rfl
@[simp] theorem setPower_wrStat (p : Bool) (s : State) : (setPower p s).wrStat = s.wrStat := rfl
@[simp] theorem setPower_wptr (p : Bool) (s : State) : (setPower p s).wptr = s.wptr := rfl
@[simp] theorem setPower_cvtFixIn (p : Bool) (s : State) : (setPower p s).cvtFixIn = s.cvtFixIn := rfl
@[simp] theorem setPower_cvtFltIn (p : Bool) (s : State) : (setPower p s).cvtFltIn = s.cvtFltIn := rfl
@[simp] theorem setPower_tmr (p : Bool) (s : State) : (setPower p s).tmr = s.tmr := rfl
@[simp] theorem setPower_cfgStage (p : Bool) (s : State) : (setPower p s).cfgStage = s.cfgStage := rfl
@[simp] theorem setPower_req (p : Bool) (s : State) : (setPower p s).req = s.req := rfl
@[simp] theorem setPower_rbuf (p : Bool) (s : State) : (setPower p s).rbuf = s.rbuf := rfl
@[simp] theorem setPower_wbuf (p : Bool) (s : State) : (setPower p s).wbuf = s.wbuf := rfl
@[simp] theorem setPower_busRdata (p : Bool) (s : State) : (setPower p s).busRdata = s.busRdata := rfl
@[simp] theorem setPower_busErr (p : Bool) (s : State) : (setPower p s).busErr = s.busErr := rfl
@[simp] theorem setPower_out (p : Bool) (s : State) : (setPower p s).out = s.out := rfl
@[simp] theorem setPower_cycle (p : Bool) (s : State) : (setPower p s).cycle = s.cycle := rfl
@[simp] theorem setPower_host (p : Bool) (s : State) : (setPower p s).host = s.host := rfl
@[simp] theorem setPower_agents (p : Bool) (s : State) : (setPower p s).agents = s.agents := rfl

/-! ### startRead -/

@[simp] theorem startRead_params (s : State) : (startRead s).params = s.params := rfl
@[simp] theorem startRead_life (s : State) : (startRead s).life = lifeAfterTransferCommand s := rfl
@[simp] theorem startRead_cfgBusy (s : State) : (startRead s).cfgBusy = s.cfgBusy := rfl
@[simp] theorem startRead_rdBusy (s : State) : (startRead s).rdBusy = true := rfl
@[simp] theorem startRead_wrBusy (s : State) : (startRead s).wrBusy = s.wrBusy := rfl
@[simp] theorem startRead_pwr (s : State) : (startRead s).pwr = s.pwr := rfl
@[simp] theorem startRead_mclkEn (s : State) : (startRead s).mclkEn = s.mclkEn := rfl
@[simp] theorem startRead_err (s : State) : (startRead s).err = s.err := rfl
@[simp] theorem startRead_irqPend (s : State) : (startRead s).irqPend = s.irqPend := rfl
@[simp] theorem startRead_irqEn (s : State) : (startRead s).irqEn = s.irqEn := rfl
@[simp] theorem startRead_cfgRate (s : State) : (startRead s).cfgRate = s.cfgRate := rfl
@[simp] theorem startRead_cfgChan (s : State) : (startRead s).cfgChan = s.cfgChan := rfl
@[simp] theorem startRead_cfgBlock (s : State) : (startRead s).cfgBlock = s.cfgBlock := rfl
@[simp] theorem startRead_cfgBus (s : State) : (startRead s).cfgBus = s.cfgBus := rfl
@[simp] theorem startRead_cfgMaster (s : State) : (startRead s).cfgMaster = s.cfgMaster := rfl
@[simp] theorem startRead_mclkHz (s : State) : (startRead s).mclkHz = s.mclkHz := rfl
@[simp] theorem startRead_nActive (s : State) : (startRead s).nActive = s.nActive := rfl
@[simp] theorem startRead_cfgErr (s : State) : (startRead s).cfgErr = s.cfgErr := rfl
@[simp] theorem startRead_cfgSum (s : State) : (startRead s).cfgSum = s.cfgSum := rfl
@[simp] theorem startRead_rdStat (s : State) : (startRead s).rdStat = 0#5 := rfl
@[simp] theorem startRead_rptr (s : State) : (startRead s).rptr = 0#32 := rfl
@[simp] theorem startRead_wrStat (s : State) : (startRead s).wrStat = s.wrStat := rfl
@[simp] theorem startRead_wptr (s : State) : (startRead s).wptr = s.wptr := rfl
@[simp] theorem startRead_cvtFixIn (s : State) : (startRead s).cvtFixIn = s.cvtFixIn := rfl
@[simp] theorem startRead_cvtFltIn (s : State) : (startRead s).cvtFltIn = s.cvtFltIn := rfl
@[simp] theorem startRead_tmr (s : State) : (startRead s).tmr = 0#32 := rfl
@[simp] theorem startRead_cfgStage (s : State) : (startRead s).cfgStage = s.cfgStage := rfl
@[simp] theorem startRead_req (s : State) : (startRead s).req = s.req := rfl
@[simp] theorem startRead_rbuf (s : State) : (startRead s).rbuf = s.rbuf := rfl
@[simp] theorem startRead_wbuf (s : State) : (startRead s).wbuf = s.wbuf := rfl
@[simp] theorem startRead_busRdata (s : State) : (startRead s).busRdata = s.busRdata := rfl
@[simp] theorem startRead_busErr (s : State) : (startRead s).busErr = s.busErr := rfl
@[simp] theorem startRead_out (s : State) : (startRead s).out = s.out := rfl
@[simp] theorem startRead_cycle (s : State) : (startRead s).cycle = s.cycle := rfl
@[simp] theorem startRead_host (s : State) : (startRead s).host = s.host := rfl
@[simp] theorem startRead_agents (s : State) : (startRead s).agents = s.agents := rfl

/-! ### startWrite -/

@[simp] theorem startWrite_params (s : State) : (startWrite s).params = s.params := rfl
@[simp] theorem startWrite_life (s : State) : (startWrite s).life = lifeAfterTransferCommand s := rfl
@[simp] theorem startWrite_cfgBusy (s : State) : (startWrite s).cfgBusy = s.cfgBusy := rfl
@[simp] theorem startWrite_rdBusy (s : State) : (startWrite s).rdBusy = s.rdBusy := rfl
@[simp] theorem startWrite_wrBusy (s : State) : (startWrite s).wrBusy = true := rfl
@[simp] theorem startWrite_pwr (s : State) : (startWrite s).pwr = s.pwr := rfl
@[simp] theorem startWrite_mclkEn (s : State) : (startWrite s).mclkEn = s.mclkEn := rfl
@[simp] theorem startWrite_err (s : State) : (startWrite s).err = s.err := rfl
@[simp] theorem startWrite_irqPend (s : State) : (startWrite s).irqPend = s.irqPend := rfl
@[simp] theorem startWrite_irqEn (s : State) : (startWrite s).irqEn = s.irqEn := rfl
@[simp] theorem startWrite_cfgRate (s : State) : (startWrite s).cfgRate = s.cfgRate := rfl
@[simp] theorem startWrite_cfgChan (s : State) : (startWrite s).cfgChan = s.cfgChan := rfl
@[simp] theorem startWrite_cfgBlock (s : State) : (startWrite s).cfgBlock = s.cfgBlock := rfl
@[simp] theorem startWrite_cfgBus (s : State) : (startWrite s).cfgBus = s.cfgBus := rfl
@[simp] theorem startWrite_cfgMaster (s : State) : (startWrite s).cfgMaster = s.cfgMaster := rfl
@[simp] theorem startWrite_mclkHz (s : State) : (startWrite s).mclkHz = s.mclkHz := rfl
@[simp] theorem startWrite_nActive (s : State) : (startWrite s).nActive = s.nActive := rfl
@[simp] theorem startWrite_cfgErr (s : State) : (startWrite s).cfgErr = s.cfgErr := rfl
@[simp] theorem startWrite_cfgSum (s : State) : (startWrite s).cfgSum = s.cfgSum := rfl
@[simp] theorem startWrite_rdStat (s : State) : (startWrite s).rdStat = s.rdStat := rfl
@[simp] theorem startWrite_rptr (s : State) : (startWrite s).rptr = s.rptr := rfl
@[simp] theorem startWrite_wrStat (s : State) : (startWrite s).wrStat = 0#6 := rfl
@[simp] theorem startWrite_wptr (s : State) : (startWrite s).wptr = 0#32 := rfl
@[simp] theorem startWrite_cvtFixIn (s : State) : (startWrite s).cvtFixIn = s.cvtFixIn := rfl
@[simp] theorem startWrite_cvtFltIn (s : State) : (startWrite s).cvtFltIn = s.cvtFltIn := rfl
@[simp] theorem startWrite_tmr (s : State) : (startWrite s).tmr = 0#32 := rfl
@[simp] theorem startWrite_cfgStage (s : State) : (startWrite s).cfgStage = s.cfgStage := rfl
@[simp] theorem startWrite_req (s : State) : (startWrite s).req = s.req := rfl
@[simp] theorem startWrite_rbuf (s : State) : (startWrite s).rbuf = s.rbuf := rfl
@[simp] theorem startWrite_wbuf (s : State) : (startWrite s).wbuf = s.wbuf := rfl
@[simp] theorem startWrite_busRdata (s : State) : (startWrite s).busRdata = s.busRdata := rfl
@[simp] theorem startWrite_busErr (s : State) : (startWrite s).busErr = s.busErr := rfl
@[simp] theorem startWrite_out (s : State) : (startWrite s).out = s.out := rfl
@[simp] theorem startWrite_cycle (s : State) : (startWrite s).cycle = s.cycle := rfl
@[simp] theorem startWrite_host (s : State) : (startWrite s).host = s.host := rfl
@[simp] theorem startWrite_agents (s : State) : (startWrite s).agents = s.agents := rfl

/-! ### registerEvents -/

@[simp] theorem registerEvents_params (ev : BitVec 4) (s : State) : (registerEvents ev s).params = s.params := rfl
@[simp] theorem registerEvents_life (ev : BitVec 4) (s : State) : (registerEvents ev s).life = s.life := rfl
@[simp] theorem registerEvents_cfgBusy (ev : BitVec 4) (s : State) : (registerEvents ev s).cfgBusy = s.cfgBusy := rfl
@[simp] theorem registerEvents_rdBusy (ev : BitVec 4) (s : State) : (registerEvents ev s).rdBusy = s.rdBusy := rfl
@[simp] theorem registerEvents_wrBusy (ev : BitVec 4) (s : State) : (registerEvents ev s).wrBusy = s.wrBusy := rfl
@[simp] theorem registerEvents_pwr (ev : BitVec 4) (s : State) : (registerEvents ev s).pwr = s.pwr := rfl
@[simp] theorem registerEvents_mclkEn (ev : BitVec 4) (s : State) : (registerEvents ev s).mclkEn = s.mclkEn := rfl
@[simp] theorem registerEvents_err (ev : BitVec 4) (s : State) : (registerEvents ev s).err = s.err := rfl
@[simp] theorem registerEvents_irqPend (ev : BitVec 4) (s : State) : (registerEvents ev s).irqPend = s.irqPend ||| ev := rfl
@[simp] theorem registerEvents_irqEn (ev : BitVec 4) (s : State) : (registerEvents ev s).irqEn = s.irqEn := rfl
@[simp] theorem registerEvents_cfgRate (ev : BitVec 4) (s : State) : (registerEvents ev s).cfgRate = s.cfgRate := rfl
@[simp] theorem registerEvents_cfgChan (ev : BitVec 4) (s : State) : (registerEvents ev s).cfgChan = s.cfgChan := rfl
@[simp] theorem registerEvents_cfgBlock (ev : BitVec 4) (s : State) : (registerEvents ev s).cfgBlock = s.cfgBlock := rfl
@[simp] theorem registerEvents_cfgBus (ev : BitVec 4) (s : State) : (registerEvents ev s).cfgBus = s.cfgBus := rfl
@[simp] theorem registerEvents_cfgMaster (ev : BitVec 4) (s : State) : (registerEvents ev s).cfgMaster = s.cfgMaster := rfl
@[simp] theorem registerEvents_mclkHz (ev : BitVec 4) (s : State) : (registerEvents ev s).mclkHz = s.mclkHz := rfl
@[simp] theorem registerEvents_nActive (ev : BitVec 4) (s : State) : (registerEvents ev s).nActive = s.nActive := rfl
@[simp] theorem registerEvents_cfgErr (ev : BitVec 4) (s : State) : (registerEvents ev s).cfgErr = s.cfgErr := rfl
@[simp] theorem registerEvents_cfgSum (ev : BitVec 4) (s : State) : (registerEvents ev s).cfgSum = s.cfgSum := rfl
@[simp] theorem registerEvents_rdStat (ev : BitVec 4) (s : State) : (registerEvents ev s).rdStat = s.rdStat := rfl
@[simp] theorem registerEvents_rptr (ev : BitVec 4) (s : State) : (registerEvents ev s).rptr = s.rptr := rfl
@[simp] theorem registerEvents_wrStat (ev : BitVec 4) (s : State) : (registerEvents ev s).wrStat = s.wrStat := rfl
@[simp] theorem registerEvents_wptr (ev : BitVec 4) (s : State) : (registerEvents ev s).wptr = s.wptr := rfl
@[simp] theorem registerEvents_cvtFixIn (ev : BitVec 4) (s : State) : (registerEvents ev s).cvtFixIn = s.cvtFixIn := rfl
@[simp] theorem registerEvents_cvtFltIn (ev : BitVec 4) (s : State) : (registerEvents ev s).cvtFltIn = s.cvtFltIn := rfl
@[simp] theorem registerEvents_tmr (ev : BitVec 4) (s : State) : (registerEvents ev s).tmr = s.tmr := rfl
@[simp] theorem registerEvents_cfgStage (ev : BitVec 4) (s : State) : (registerEvents ev s).cfgStage = s.cfgStage := rfl
@[simp] theorem registerEvents_req (ev : BitVec 4) (s : State) : (registerEvents ev s).req = s.req := rfl
@[simp] theorem registerEvents_rbuf (ev : BitVec 4) (s : State) : (registerEvents ev s).rbuf = s.rbuf := rfl
@[simp] theorem registerEvents_wbuf (ev : BitVec 4) (s : State) : (registerEvents ev s).wbuf = s.wbuf := rfl
@[simp] theorem registerEvents_busRdata (ev : BitVec 4) (s : State) : (registerEvents ev s).busRdata = s.busRdata := rfl
@[simp] theorem registerEvents_busErr (ev : BitVec 4) (s : State) : (registerEvents ev s).busErr = s.busErr := rfl
@[simp] theorem registerEvents_out (ev : BitVec 4) (s : State) : (registerEvents ev s).out = s.out := rfl
@[simp] theorem registerEvents_cycle (ev : BitVec 4) (s : State) : (registerEvents ev s).cycle = s.cycle := rfl
@[simp] theorem registerEvents_host (ev : BitVec 4) (s : State) : (registerEvents ev s).host = s.host := rfl
@[simp] theorem registerEvents_agents (ev : BitVec 4) (s : State) : (registerEvents ev s).agents = s.agents := rfl

/-! ### closeCycle -/

@[simp] theorem closeCycle_params (s t : State) : (closeCycle s t).params = t.params := rfl
@[simp] theorem closeCycle_life (s t : State) : (closeCycle s t).life = t.life := rfl
@[simp] theorem closeCycle_cfgBusy (s t : State) : (closeCycle s t).cfgBusy = t.cfgBusy := rfl
@[simp] theorem closeCycle_rdBusy (s t : State) : (closeCycle s t).rdBusy = t.rdBusy := rfl
@[simp] theorem closeCycle_wrBusy (s t : State) : (closeCycle s t).wrBusy = t.wrBusy := rfl
@[simp] theorem closeCycle_pwr (s t : State) : (closeCycle s t).pwr = t.pwr := rfl
@[simp] theorem closeCycle_mclkEn (s t : State) : (closeCycle s t).mclkEn = t.mclkEn := rfl
@[simp] theorem closeCycle_err (s t : State) : (closeCycle s t).err = t.err := rfl
@[simp] theorem closeCycle_irqPend (s t : State) : (closeCycle s t).irqPend = t.irqPend := rfl
@[simp] theorem closeCycle_irqEn (s t : State) : (closeCycle s t).irqEn = t.irqEn := rfl
@[simp] theorem closeCycle_cfgRate (s t : State) : (closeCycle s t).cfgRate = t.cfgRate := rfl
@[simp] theorem closeCycle_cfgChan (s t : State) : (closeCycle s t).cfgChan = t.cfgChan := rfl
@[simp] theorem closeCycle_cfgBlock (s t : State) : (closeCycle s t).cfgBlock = t.cfgBlock := rfl
@[simp] theorem closeCycle_cfgBus (s t : State) : (closeCycle s t).cfgBus = t.cfgBus := rfl
@[simp] theorem closeCycle_cfgMaster (s t : State) : (closeCycle s t).cfgMaster = t.cfgMaster := rfl
@[simp] theorem closeCycle_mclkHz (s t : State) : (closeCycle s t).mclkHz = t.mclkHz := rfl
@[simp] theorem closeCycle_nActive (s t : State) : (closeCycle s t).nActive = t.nActive := rfl
@[simp] theorem closeCycle_cfgErr (s t : State) : (closeCycle s t).cfgErr = t.cfgErr := rfl
@[simp] theorem closeCycle_cfgSum (s t : State) : (closeCycle s t).cfgSum = t.cfgSum := rfl
@[simp] theorem closeCycle_rdStat (s t : State) : (closeCycle s t).rdStat = t.rdStat := rfl
@[simp] theorem closeCycle_rptr (s t : State) : (closeCycle s t).rptr = t.rptr := rfl
@[simp] theorem closeCycle_wrStat (s t : State) : (closeCycle s t).wrStat = t.wrStat := rfl
@[simp] theorem closeCycle_wptr (s t : State) : (closeCycle s t).wptr = t.wptr := rfl
@[simp] theorem closeCycle_cvtFixIn (s t : State) : (closeCycle s t).cvtFixIn = t.cvtFixIn := rfl
@[simp] theorem closeCycle_cvtFltIn (s t : State) : (closeCycle s t).cvtFltIn = t.cvtFltIn := rfl
@[simp] theorem closeCycle_tmr (s t : State) : (closeCycle s t).tmr = t.tmr := rfl
@[simp] theorem closeCycle_cfgStage (s t : State) : (closeCycle s t).cfgStage = t.cfgStage := rfl
@[simp] theorem closeCycle_req (s t : State) : (closeCycle s t).req = t.req := rfl
@[simp] theorem closeCycle_rbuf (s t : State) : (closeCycle s t).rbuf = t.rbuf := rfl
@[simp] theorem closeCycle_wbuf (s t : State) : (closeCycle s t).wbuf = t.wbuf := rfl
@[simp] theorem closeCycle_busRdata (s t : State) : (closeCycle s t).busRdata = t.busRdata := rfl
@[simp] theorem closeCycle_busErr (s t : State) : (closeCycle s t).busErr = t.busErr := rfl
@[simp] theorem closeCycle_out (s t : State) : (closeCycle s t).out = outputs s := rfl
@[simp] theorem closeCycle_cycle (s t : State) : (closeCycle s t).cycle = s.cycle + 1 := rfl
@[simp] theorem closeCycle_host (s t : State) : (closeCycle s t).host = hostAfter s.host t.busRdata := rfl
@[simp] theorem closeCycle_agents (s t : State) : (closeCycle s t).agents = s.agents.tail := rfl

/-! ### leaveExternal -/

@[simp] theorem leaveExternal_params (next : CfgStage) (s : State) : (leaveExternal next s).params = s.params := rfl
@[simp] theorem leaveExternal_life (next : CfgStage) (s : State) : (leaveExternal next s).life = s.life := rfl
@[simp] theorem leaveExternal_cfgBusy (next : CfgStage) (s : State) : (leaveExternal next s).cfgBusy = s.cfgBusy := rfl
@[simp] theorem leaveExternal_rdBusy (next : CfgStage) (s : State) : (leaveExternal next s).rdBusy = s.rdBusy := rfl
@[simp] theorem leaveExternal_wrBusy (next : CfgStage) (s : State) : (leaveExternal next s).wrBusy = s.wrBusy := rfl
@[simp] theorem leaveExternal_pwr (next : CfgStage) (s : State) : (leaveExternal next s).pwr = s.pwr := rfl
@[simp] theorem leaveExternal_mclkEn (next : CfgStage) (s : State) : (leaveExternal next s).mclkEn = s.mclkEn := rfl
@[simp] theorem leaveExternal_err (next : CfgStage) (s : State) : (leaveExternal next s).err = s.err := rfl
@[simp] theorem leaveExternal_irqPend (next : CfgStage) (s : State) : (leaveExternal next s).irqPend = s.irqPend := rfl
@[simp] theorem leaveExternal_irqEn (next : CfgStage) (s : State) : (leaveExternal next s).irqEn = s.irqEn := rfl
@[simp] theorem leaveExternal_cfgRate (next : CfgStage) (s : State) : (leaveExternal next s).cfgRate = s.cfgRate := rfl
@[simp] theorem leaveExternal_cfgChan (next : CfgStage) (s : State) : (leaveExternal next s).cfgChan = s.cfgChan := rfl
@[simp] theorem leaveExternal_cfgBlock (next : CfgStage) (s : State) : (leaveExternal next s).cfgBlock = s.cfgBlock := rfl
@[simp] theorem leaveExternal_cfgBus (next : CfgStage) (s : State) : (leaveExternal next s).cfgBus = s.cfgBus := rfl
@[simp] theorem leaveExternal_cfgMaster (next : CfgStage) (s : State) : (leaveExternal next s).cfgMaster = s.cfgMaster := rfl
@[simp] theorem leaveExternal_mclkHz (next : CfgStage) (s : State) : (leaveExternal next s).mclkHz = s.mclkHz := rfl
@[simp] theorem leaveExternal_nActive (next : CfgStage) (s : State) : (leaveExternal next s).nActive = s.nActive := rfl
@[simp] theorem leaveExternal_cfgErr (next : CfgStage) (s : State) : (leaveExternal next s).cfgErr = s.cfgErr := rfl
@[simp] theorem leaveExternal_cfgSum (next : CfgStage) (s : State) : (leaveExternal next s).cfgSum = s.cfgSum := rfl
@[simp] theorem leaveExternal_rdStat (next : CfgStage) (s : State) : (leaveExternal next s).rdStat = s.rdStat := rfl
@[simp] theorem leaveExternal_rptr (next : CfgStage) (s : State) : (leaveExternal next s).rptr = s.rptr := rfl
@[simp] theorem leaveExternal_wrStat (next : CfgStage) (s : State) : (leaveExternal next s).wrStat = s.wrStat := rfl
@[simp] theorem leaveExternal_wptr (next : CfgStage) (s : State) : (leaveExternal next s).wptr = s.wptr := rfl
@[simp] theorem leaveExternal_cvtFixIn (next : CfgStage) (s : State) : (leaveExternal next s).cvtFixIn = s.cvtFixIn := rfl
@[simp] theorem leaveExternal_cvtFltIn (next : CfgStage) (s : State) : (leaveExternal next s).cvtFltIn = s.cvtFltIn := rfl
@[simp] theorem leaveExternal_tmr (next : CfgStage) (s : State) : (leaveExternal next s).tmr = 0#32 := rfl
@[simp] theorem leaveExternal_cfgStage (next : CfgStage) (s : State) : (leaveExternal next s).cfgStage = next := rfl
@[simp] theorem leaveExternal_req (next : CfgStage) (s : State) : (leaveExternal next s).req = isExternal next := rfl
@[simp] theorem leaveExternal_rbuf (next : CfgStage) (s : State) : (leaveExternal next s).rbuf = s.rbuf := rfl
@[simp] theorem leaveExternal_wbuf (next : CfgStage) (s : State) : (leaveExternal next s).wbuf = s.wbuf := rfl
@[simp] theorem leaveExternal_busRdata (next : CfgStage) (s : State) : (leaveExternal next s).busRdata = s.busRdata := rfl
@[simp] theorem leaveExternal_busErr (next : CfgStage) (s : State) : (leaveExternal next s).busErr = s.busErr := rfl
@[simp] theorem leaveExternal_out (next : CfgStage) (s : State) : (leaveExternal next s).out = s.out := rfl
@[simp] theorem leaveExternal_cycle (next : CfgStage) (s : State) : (leaveExternal next s).cycle = s.cycle := rfl
@[simp] theorem leaveExternal_host (next : CfgStage) (s : State) : (leaveExternal next s).host = s.host := rfl
@[simp] theorem leaveExternal_agents (next : CfgStage) (s : State) : (leaveExternal next s).agents = s.agents := rfl

/-! ### stagePowerDown -/

@[simp] theorem stagePowerDown_params (s : State) : (stagePowerDown s).params = s.params := rfl
@[simp] theorem stagePowerDown_life (s : State) : (stagePowerDown s).life = s.life := rfl
@[simp] theorem stagePowerDown_cfgBusy (s : State) : (stagePowerDown s).cfgBusy = s.cfgBusy := rfl
@[simp] theorem stagePowerDown_rdBusy (s : State) : (stagePowerDown s).rdBusy = s.rdBusy := rfl
@[simp] theorem stagePowerDown_wrBusy (s : State) : (stagePowerDown s).wrBusy = s.wrBusy := rfl
@[simp] theorem stagePowerDown_pwr (s : State) : (stagePowerDown s).pwr = false := rfl
@[simp] theorem stagePowerDown_mclkEn (s : State) : (stagePowerDown s).mclkEn = s.mclkEn := rfl
@[simp] theorem stagePowerDown_err (s : State) : (stagePowerDown s).err = s.err := rfl
@[simp] theorem stagePowerDown_irqPend (s : State) : (stagePowerDown s).irqPend = s.irqPend := rfl
@[simp] theorem stagePowerDown_irqEn (s : State) : (stagePowerDown s).irqEn = s.irqEn := rfl
@[simp] theorem stagePowerDown_cfgRate (s : State) : (stagePowerDown s).cfgRate = s.cfgRate := rfl
@[simp] theorem stagePowerDown_cfgChan (s : State) : (stagePowerDown s).cfgChan = s.cfgChan := rfl
@[simp] theorem stagePowerDown_cfgBlock (s : State) : (stagePowerDown s).cfgBlock = s.cfgBlock := rfl
@[simp] theorem stagePowerDown_cfgBus (s : State) : (stagePowerDown s).cfgBus = s.cfgBus := rfl
@[simp] theorem stagePowerDown_cfgMaster (s : State) : (stagePowerDown s).cfgMaster = s.cfgMaster := rfl
@[simp] theorem stagePowerDown_mclkHz (s : State) : (stagePowerDown s).mclkHz = s.mclkHz := rfl
@[simp] theorem stagePowerDown_nActive (s : State) : (stagePowerDown s).nActive = s.nActive := rfl
@[simp] theorem stagePowerDown_cfgErr (s : State) : (stagePowerDown s).cfgErr = s.cfgErr := rfl
@[simp] theorem stagePowerDown_cfgSum (s : State) : (stagePowerDown s).cfgSum = s.cfgSum := rfl
@[simp] theorem stagePowerDown_rdStat (s : State) : (stagePowerDown s).rdStat = s.rdStat := rfl
@[simp] theorem stagePowerDown_rptr (s : State) : (stagePowerDown s).rptr = s.rptr := rfl
@[simp] theorem stagePowerDown_wrStat (s : State) : (stagePowerDown s).wrStat = s.wrStat := rfl
@[simp] theorem stagePowerDown_wptr (s : State) : (stagePowerDown s).wptr = s.wptr := rfl
@[simp] theorem stagePowerDown_cvtFixIn (s : State) : (stagePowerDown s).cvtFixIn = s.cvtFixIn := rfl
@[simp] theorem stagePowerDown_cvtFltIn (s : State) : (stagePowerDown s).cvtFltIn = s.cvtFltIn := rfl
@[simp] theorem stagePowerDown_tmr (s : State) : (stagePowerDown s).tmr = s.tmr := rfl
@[simp] theorem stagePowerDown_cfgStage (s : State) : (stagePowerDown s).cfgStage = .mclk := rfl
@[simp] theorem stagePowerDown_req (s : State) : (stagePowerDown s).req = s.req := rfl
@[simp] theorem stagePowerDown_rbuf (s : State) : (stagePowerDown s).rbuf = s.rbuf := rfl
@[simp] theorem stagePowerDown_wbuf (s : State) : (stagePowerDown s).wbuf = s.wbuf := rfl
@[simp] theorem stagePowerDown_busRdata (s : State) : (stagePowerDown s).busRdata = s.busRdata := rfl
@[simp] theorem stagePowerDown_busErr (s : State) : (stagePowerDown s).busErr = s.busErr := rfl
@[simp] theorem stagePowerDown_out (s : State) : (stagePowerDown s).out = s.out := rfl
@[simp] theorem stagePowerDown_cycle (s : State) : (stagePowerDown s).cycle = s.cycle := rfl
@[simp] theorem stagePowerDown_host (s : State) : (stagePowerDown s).host = s.host := rfl
@[simp] theorem stagePowerDown_agents (s : State) : (stagePowerDown s).agents = s.agents := rfl

/-! ### stageAlloc -/

@[simp] theorem stageAlloc_params (s : State) : (stageAlloc s).params = s.params := rfl
@[simp] theorem stageAlloc_life (s : State) : (stageAlloc s).life = s.life := rfl
@[simp] theorem stageAlloc_cfgBusy (s : State) : (stageAlloc s).cfgBusy = s.cfgBusy := rfl
@[simp] theorem stageAlloc_rdBusy (s : State) : (stageAlloc s).rdBusy = s.rdBusy := rfl
@[simp] theorem stageAlloc_wrBusy (s : State) : (stageAlloc s).wrBusy = s.wrBusy := rfl
@[simp] theorem stageAlloc_pwr (s : State) : (stageAlloc s).pwr = s.pwr := rfl
@[simp] theorem stageAlloc_mclkEn (s : State) : (stageAlloc s).mclkEn = s.mclkEn := rfl
@[simp] theorem stageAlloc_err (s : State) : (stageAlloc s).err = s.err := rfl
@[simp] theorem stageAlloc_irqPend (s : State) : (stageAlloc s).irqPend = s.irqPend := rfl
@[simp] theorem stageAlloc_irqEn (s : State) : (stageAlloc s).irqEn = s.irqEn := rfl
@[simp] theorem stageAlloc_cfgRate (s : State) : (stageAlloc s).cfgRate = s.cfgRate := rfl
@[simp] theorem stageAlloc_cfgChan (s : State) : (stageAlloc s).cfgChan = s.cfgChan := rfl
@[simp] theorem stageAlloc_cfgBlock (s : State) : (stageAlloc s).cfgBlock = s.cfgBlock := rfl
@[simp] theorem stageAlloc_cfgBus (s : State) : (stageAlloc s).cfgBus = s.cfgBus := rfl
@[simp] theorem stageAlloc_cfgMaster (s : State) : (stageAlloc s).cfgMaster = s.cfgMaster := rfl
@[simp] theorem stageAlloc_mclkHz (s : State) : (stageAlloc s).mclkHz = s.mclkHz := rfl
@[simp] theorem stageAlloc_nActive (s : State) : (stageAlloc s).nActive = s.nActive := rfl
@[simp] theorem stageAlloc_cfgErr (s : State) : (stageAlloc s).cfgErr = s.cfgErr := rfl
@[simp] theorem stageAlloc_cfgSum (s : State) : (stageAlloc s).cfgSum = s.cfgSum := rfl
@[simp] theorem stageAlloc_rdStat (s : State) : (stageAlloc s).rdStat = s.rdStat := rfl
@[simp] theorem stageAlloc_rptr (s : State) : (stageAlloc s).rptr = s.rptr := rfl
@[simp] theorem stageAlloc_wrStat (s : State) : (stageAlloc s).wrStat = s.wrStat := rfl
@[simp] theorem stageAlloc_wptr (s : State) : (stageAlloc s).wptr = s.wptr := rfl
@[simp] theorem stageAlloc_cvtFixIn (s : State) : (stageAlloc s).cvtFixIn = s.cvtFixIn := rfl
@[simp] theorem stageAlloc_cvtFltIn (s : State) : (stageAlloc s).cvtFltIn = s.cvtFltIn := rfl
@[simp] theorem stageAlloc_tmr (s : State) : (stageAlloc s).tmr = s.tmr := rfl
@[simp] theorem stageAlloc_cfgStage (s : State) : (stageAlloc s).cfgStage = .finish := rfl
@[simp] theorem stageAlloc_req (s : State) : (stageAlloc s).req = s.req := rfl
@[simp] theorem stageAlloc_rbuf (s : State) : (stageAlloc s).rbuf = zeroed := rfl
@[simp] theorem stageAlloc_wbuf (s : State) : (stageAlloc s).wbuf = zeroed := rfl
@[simp] theorem stageAlloc_busRdata (s : State) : (stageAlloc s).busRdata = s.busRdata := rfl
@[simp] theorem stageAlloc_busErr (s : State) : (stageAlloc s).busErr = s.busErr := rfl
@[simp] theorem stageAlloc_out (s : State) : (stageAlloc s).out = s.out := rfl
@[simp] theorem stageAlloc_cycle (s : State) : (stageAlloc s).cycle = s.cycle := rfl
@[simp] theorem stageAlloc_host (s : State) : (stageAlloc s).host = s.host := rfl
@[simp] theorem stageAlloc_agents (s : State) : (stageAlloc s).agents = s.agents := rfl

end Sys2Proof.Machine
end

