-- ==== Sys2Proof/Laws/Ops.lean ====
section
/-! SUPPORT. One lemma for each shared operation that says once everything it can do; proofs cite these instead of unfolding. -/

namespace Sys2Proof.Machine

/-! ### Legal parameters -/

theorem params_blockBase : Config.params.blockBase = Config.blockBaseMiB * 2 ^ 20 := rfl
theorem params_numBus : Config.params.numBus = Config.numBusLess1.toNat + 1 := rfl
theorem params_maxSamples : Config.params.maxSamples = 512 + Config.maxSamplesAbove512 % 15873 := rfl
theorem params_timeout : Config.params.timeout = 1 + Config.timeoutLess1 % (2 ^ 32 - 1) := rfl
theorem params_settle : Config.params.settle = Config.settleCycles.toNat := rfl
theorem params_mclkMult : Config.params.mclkMult = 384 := rfl
theorem params_fClk : Config.params.fClk = Config.fClkLess1 + 1 := rfl

/-- The parameters that a machine comes out of reset with are legal, whatever the free constants are. -/
theorem params_legal : Config.params.legal := by
  have h1 := Config.numBusLess1.isLt
  have h2 := Config.settleCycles.isLt
  rw [Params.legal, params_blockBase, params_numBus, params_maxSamples, params_timeout, params_settle,
    params_mclkMult, params_fClk]
  omega

/-! ### Outcomes -/

@[simp] theorem andThen_next (s : State) (f : State → State) :
    andThen (.next s) f = .next (f s) := rfl

/-- `andThen` answers a next state exactly where its first part does. -/
theorem andThen_eq_next {o : Host.Outcome State Fault Refusal} {f : State → State} {t : State} :
    andThen o f = .next t ↔ ∃ u, o = .next u ∧ f u = t := by
  cases o <;> simp [andThen]

@[simp] theorem readReply_eq (v : Word) (s : State) : readReply v s = .next (respondRead v s) := rfl
@[simp] theorem refuseRead_eq (c : ErrCause) (s : State) :
    refuseRead c s = .next (raiseError c (respondRead 0#32 s)) := rfl
@[simp] theorem refuseWrite_eq (c : ErrCause) (s : State) :
    refuseWrite c s = .next (raiseError c (respondWrite s)) := rfl
@[simp] theorem acceptWrite_eq (f : State → State) (s : State) :
    acceptWrite f s = .next (f (respondWrite s)) := rfl

/-- Raising an error, in the terms of the claims. -/
theorem raiseError_respondRead (c : ErrCause) (v : Word) (s : State) :
    raiseError c (respondRead v s) = recorded (BitVec.twoPow 10 (errBit c)) v s := rfl
theorem raiseError_respondWrite (c : ErrCause) (s : State) :
    raiseError c (respondWrite s) = recorded (BitVec.twoPow 10 (errBit c)) (Config.freeBusRdata s.cycle) s := rfl
theorem respondRead_eq_answered (v : Word) (s : State) : respondRead v s = answered v s := rfl
theorem respondWrite_eq_answered (s : State) :
    respondWrite s = answered (Config.freeBusRdata s.cycle) s := rfl

/-! ### Conditions -/

theorem unlocked_iff (s : State) : unlocked s = true ↔ s.life = .uninit ∧ s.cfgBusy = false := by
  simp [unlocked]

theorem busy_eq_false_iff (s : State) : busy s = false ↔ Idle s := by
  simp [busy, Idle, Bool.or_eq_false_iff, and_assoc]

theorem inRange_iff (i : Nat) (s : State) : inRange i s = true ↔ i < s.nActive.toNat := by
  simp [inRange]

/-! ### Shared accesses -/

/-- A configuration write is performed while unlocked and else raises CFG_LOCKED (R21). -/
theorem lockedWrite_cases (f : State → State) (s : State) :
    (unlocked s = true ∧ lockedWrite f s = .next (f (respondWrite s))) ∨
    (unlocked s = false ∧ lockedWrite f s = .next (raiseError .cfgLocked (respondWrite s))) := by
  cases h : unlocked s <;> simp [lockedWrite, h]

/-- A read of the RBUF windows answers in one of three ways (R144, R241). -/
theorem readRbufWindow_cases (view : Word → Word) (i : Nat) (s : State) :
    (i < s.nActive.toNat ∧ s.rdBusy = false ∧
      readRbufWindow view i s = .next (respondRead (view (rbufWord s i)) s)) ∨
    (i < s.nActive.toNat ∧ s.rdBusy = true ∧
      readRbufWindow view i s = .next (raiseError .hazRbuf (respondRead (view (rbufWord s i)) s))) ∨
    (s.nActive.toNat ≤ i ∧ readRbufWindow view i s = .next (raiseError .busRange (respondRead 0#32 s))) := by
  by_cases h : i < s.nActive.toNat
  · cases hb : s.rdBusy <;> simp [readRbufWindow, inRange, h, hb]
  · have h' : s.nActive.toNat ≤ i := by omega
    simp [readRbufWindow, inRange, h, h']

/-- A read of the WBUF windows answers in one of two ways (R146, R242). -/
theorem readWbufWindow_cases (view : Word → Word) (i : Nat) (s : State) :
    (i < s.nActive.toNat ∧ readWbufWindow view i s = .next (respondRead (view (wbufWord s i)) s)) ∨
    (s.nActive.toNat ≤ i ∧ readWbufWindow view i s = .next (raiseError .busRange (respondRead 0#32 s))) := by
  by_cases h : i < s.nActive.toNat
  · simp [readWbufWindow, inRange, h]
  · have h' : s.nActive.toNat ≤ i := by omega
    simp [readWbufWindow, inRange, h, h']

/-- A write of the WBUF windows answers in one of three ways (R145, R245). -/
theorem writeWbufWindow_cases (i : Nat) (v : Word) (s : State) :
    (i < s.nActive.toNat ∧ s.wrBusy = false ∧
      writeWbufWindow i v s = .next (storeWbuf i v (respondWrite s))) ∨
    (i < s.nActive.toNat ∧ s.wrBusy = true ∧
      writeWbufWindow i v s = .next (raiseError .hazWbuf (storeWbuf i v (respondWrite s)))) ∨
    (s.nActive.toNat ≤ i ∧ writeWbufWindow i v s = .next (raiseError .busRange (respondWrite s))) := by
  by_cases h : i < s.nActive.toNat
  · cases hb : s.wrBusy <;> simp [writeWbufWindow, inRange, h, hb]
  · have h' : s.nActive.toNat ≤ i := by omega
    simp [writeWbufWindow, inRange, h, h']

/-- CONFIG answers in one of three ways (R162). -/
theorem execConfig_cases (s : State) :
    (busy s = true ∧ execConfig s = .next (raiseError .cmdBusy (respondWrite s))) ∨
    (busy s = false ∧ s.life = .uninit ∧ execConfig s = .next (startConfig (respondWrite s))) ∨
    (busy s = false ∧ s.life ≠ .uninit ∧ execConfig s = .next (raiseError .cmdState (respondWrite s))) := by
  cases h : busy s
  · by_cases hl : s.life = .uninit <;> simp [execConfig, h, hl]
  · simp [execConfig, h]

/-- ENABLE answers in one of two ways (R162). -/
theorem execEnable_cases (p : Bool) (s : State) :
    (s.cfgBusy = true ∧ execEnable p s = .next (raiseError .cmdBusy (respondWrite s))) ∨
    (s.cfgBusy = false ∧ execEnable p s = .next (setPower p (respondWrite s))) := by
  cases h : s.cfgBusy <;> simp [execEnable, h]

/-- READ_BLOCK answers in one of three ways (R162). -/
theorem execReadBlock_cases (s : State) :
    (busy s = true ∧ execReadBlock s = .next (raiseError .cmdBusy (respondWrite s))) ∨
    (busy s = false ∧ s.life = .uninit ∧ execReadBlock s = .next (raiseError .cmdState (respondWrite s))) ∨
    (busy s = false ∧ s.life ≠ .uninit ∧ execReadBlock s = .next (startRead (respondWrite s))) := by
  cases h : busy s
  · by_cases hl : s.life = .uninit <;> simp [execReadBlock, h, hl]
  · simp [execReadBlock, h]

/-- WRITE_BLOCK answers in one of three ways (R162). -/
theorem execWriteBlock_cases (s : State) :
    (busy s = true ∧ execWriteBlock s = .next (raiseError .cmdBusy (respondWrite s))) ∨
    (busy s = false ∧ s.life = .uninit ∧ execWriteBlock s = .next (raiseError .cmdState (respondWrite s))) ∨
    (busy s = false ∧ s.life ≠ .uninit ∧ execWriteBlock s = .next (startWrite (respondWrite s))) := by
  cases h : busy s
  · by_cases hl : s.life = .uninit <;> simp [execWriteBlock, h, hl]
  · simp [execWriteBlock, h]

/-- A CMD write either presents a legal command or raises CMD_ILLEGAL (R160, R161). -/
theorem execWrCmd_cases (w : Word) (s : State) :
    (∃ c, decodeCommand w = .ok c ∧ execWrCmd w s = execCommand c s) ∨
    (∃ e, decodeCommand w = .error e ∧ execWrCmd w s = .next (raiseError .cmdIllegal (respondWrite s))) := by
  cases h : decodeCommand w with
  | ok c => exact .inl ⟨c, rfl, by simp [execWrCmd, h]⟩
  | error e => exact .inr ⟨e, rfl, by simp [execWrCmd, h]⟩

/-! ### The transfer in flight -/

/-- The end of a read is a completion, a timeout, or one more busy cycle (R230). -/
theorem endRead_cases (s : State) :
    (s.rptr.toNat = s.nActive.toNat ∧
      endRead s = { s with rdBusy := false, rdStat := rdStatComplete s.rdStat, tmr := 0#32 }) ∨
    (s.rptr.toNat ≠ s.nActive.toNat ∧ s.params.timeout ≤ (s.tmr + 1#32).toNat ∧
      endRead s = { s with rdBusy := false, rdStat := rdStatTimeout s.rdStat, tmr := 0#32 }) ∨
    (s.rptr.toNat ≠ s.nActive.toNat ∧ (s.tmr + 1#32).toNat < s.params.timeout ∧
      endRead s = { s with tmr := s.tmr + 1#32 }) := by
  by_cases h : s.rptr.toNat = s.nActive.toNat
  · exact .inl ⟨h, by simp only [endRead, if_pos h]⟩
  · by_cases ht : s.params.timeout ≤ (s.tmr + 1#32).toNat
    · exact .inr (.inl ⟨h, ht, by simp only [endRead, if_neg h, if_pos ht]⟩)
    · exact .inr (.inr ⟨h, by omega, by simp only [endRead, if_neg h, if_neg ht]⟩)

/-- The end of a write is a completion, a timeout, or one more busy cycle (R234). -/
theorem endWrite_cases (s : State) :
    (s.wptr.toNat = s.nActive.toNat ∧
      endWrite s = { s with wrBusy := false, wrStat := wrStatComplete s.wrStat, tmr := 0#32 }) ∨
    (s.wptr.toNat ≠ s.nActive.toNat ∧ s.params.timeout ≤ (s.tmr + 1#32).toNat ∧
      endWrite s =
        { s with wrBusy := false, wrStat := wrStatTimeout s.wrStat (decide (s.wptr = 0#32)), tmr := 0#32 }) ∨
    (s.wptr.toNat ≠ s.nActive.toNat ∧ (s.tmr + 1#32).toNat < s.params.timeout ∧
      endWrite s = { s with tmr := s.tmr + 1#32 }) := by
  by_cases h : s.wptr.toNat = s.nActive.toNat
  · exact .inl ⟨h, by simp only [endWrite, if_pos h]⟩
  · by_cases ht : s.params.timeout ≤ (s.tmr + 1#32).toNat
    · exact .inr (.inl ⟨h, ht, by simp only [endWrite, if_neg h, if_pos ht]⟩)
    · exact .inr (.inr ⟨h, by omega, by simp only [endWrite, if_neg h, if_neg ht]⟩)

/-- What the RX handshake changes, field by field (R229, R231). -/
theorem rxHandshake_eq (a : AgentIn) (s : State) :
    rxHandshake a s =
      { s with
        rdStat := if a.rxErr then setBit s.rdStat statPerErr else s.rdStat
        rbuf := if a.rxValid then writeWord s.rbuf (wordAddr s.rptr.toNat) a.rxData else s.rbuf
        rptr := if a.rxValid then s.rptr + 1#32 else s.rptr } := by
  cases he : a.rxErr <;> cases hv : a.rxValid <;> simp [rxHandshake, storeRbuf, he, hv]

/-- What the TX handshake changes, field by field (R233, R235). -/
theorem txHandshake_eq (a : AgentIn) (s : State) :
    txHandshake a s =
      { s with
        wrStat := if a.txErr then setBit s.wrStat statPerErr else s.wrStat
        wptr := if a.txReady then s.wptr + 1#32 else s.wptr } := by
  cases he : a.txErr <;> cases hv : a.txReady <;> simp [txHandshake, he, hv]

/-- With no transfer in flight the transfer's step does nothing. -/
theorem transferStep_idle (a : AgentIn) {s : State} (hr : s.rdBusy = false) (hw : s.wrBusy = false) :
    transferStep a s = s := by
  simp [transferStep, hr, hw]

/-- With a read in flight, and no write, the transfer's step is the read's. -/
theorem transferStep_read (a : AgentIn) {s : State} (hr : s.rdBusy = true) (hw : s.wrBusy = false) :
    transferStep a s = endRead (rxHandshake a s) := by
  have h : (endRead (rxHandshake a s)).wrBusy = false := by
    rcases endRead_cases (rxHandshake a s) with ⟨_, e⟩ | ⟨_, _, e⟩ | ⟨_, _, e⟩ <;> rw [e] <;>
      simp [rxHandshake_eq, hw]
  simp [transferStep, hr, h]

/-- With a write in flight, and no read, the transfer's step is the write's. -/
theorem transferStep_write (a : AgentIn) {s : State} (hr : s.rdBusy = false) (hw : s.wrBusy = true) :
    transferStep a s = endWrite (txHandshake a s) := by
  simp [transferStep, hr, hw]

/-- With no transfer in flight no event of a transfer is set. -/
theorem transferEvents_idle (a : AgentIn) {s : State} (hr : s.rdBusy = false) (hw : s.wrBusy = false) :
    transferEvents s (transferStep a s) = 0#4 := by
  rw [transferStep_idle a hr hw]
  simp only [transferEvents, hr, hw]
  decide

/-! ### The CONFIG sequencer -/

/-- One cycle of an external stage: acknowledged, timed out, or still waiting (R185). -/
theorem stageExternal_cases (e : Nat) (next : CfgStage) (a : AgentIn) (s : State) :
    (a.perAck = true ∧ stageExternal e next a s =
      leaveExternal next
        { s with
          cfgSum := s.cfgSum + a.perStatus
          cfgErr := if a.perStatus ≠ 0#32 then setBit s.cfgErr e else s.cfgErr }) ∨
    (a.perAck = false ∧ s.params.timeout ≤ (s.tmr + 1#32).toNat ∧ stageExternal e next a s =
      leaveExternal next { s with cfgErr := setBit (setBit s.cfgErr e) cfgErrStageTimeout }) ∨
    (a.perAck = false ∧ (s.tmr + 1#32).toNat < s.params.timeout ∧
      stageExternal e next a s = { s with tmr := s.tmr + 1#32 }) := by
  cases ha : a.perAck
  · by_cases ht : s.params.timeout ≤ (s.tmr + 1#32).toNat
    · exact .inr (.inl ⟨rfl, ht, by simp only [stageExternal, ha, if_pos ht]; rfl⟩)
    · exact .inr (.inr ⟨rfl, by omega, by simp only [stageExternal, ha, if_neg ht]; rfl⟩)
  · exact .inl ⟨rfl, by simp [stageExternal, ha]⟩

/-! ### The cycle -/

/-- A cycle with rst_n = 1 is its body and the close of the cycle. -/
theorem runCycle_live {h : BusIn} (a : AgentIn) (s : State) (hr : h.rstN = true) :
    runCycle h a s = andThen (cycleBody h.access a s) (closeCycle s) := by
  simp [runCycle, hr]

/-- A cycle with rst_n = 0 resets (R290). -/
theorem runCycle_reset {h : BusIn} (a : AgentIn) (s : State) (hr : h.rstN = false) :
    runCycle h a s = .next (closeCycle s (resetCycle h.access s)) := by
  simp [runCycle, hr]

/-- In a reset cycle without a write bus_rdata = 0 (R290, R70). -/
theorem resetRdata_eq_zero {access : Option Access} (s : State) (h : ∀ acc, access = some acc → acc.write = false) :
    resetRdata access s = 0#32 := by
  cases access with
  | none => rfl
  | some acc => simp [resetRdata, h acc rfl]

/-- The body of a cycle with no access. -/
theorem cycleBody_quiet (a : AgentIn) (s : State) :
    cycleBody none a s = .next (stageStep s.cfgStage a (transferAndRegister a (idleBus s))) := rfl

/-- The body of a cycle with a read: the read, then the transfer, then the stage. -/
theorem cycleBody_read {acc : Access} (a : AgentIn) (s : State) (hw : acc.write = false) :
    cycleBody (some acc) a s =
      andThen (hostAccess acc s) (fun u => stageStep s.cfgStage a (transferAndRegister a u)) := by
  simp [cycleBody, hw]

/-- The body of a cycle with a write: the transfer, then the write, then the registered events and the stage. -/
theorem cycleBody_write {acc : Access} (a : AgentIn) (s : State) (hw : acc.write = true) :
    cycleBody (some acc) a s =
      andThen (hostAccess acc (transferStep a s))
        (fun u => stageStep s.cfgStage a (registerEvents (transferEvents s (transferStep a s)) u)) := by
  simp [cycleBody, hw]

/-- A host access that decodes runs its instruction. -/
theorem hostAccess_ok {acc : Access} {i : Instr} (s : State) (h : decodeAccess acc = .ok i) :
    hostAccess acc s = exec i s := by
  simp [hostAccess, h]

/-! ### The end of a run (R297) -/

/-- A host that has issued its last access leaves the bus idle. -/
theorem busNow_done {p : List HostOp} (h : lastAccessIssued p = true) : busNow p = quietBus := by
  induction p with
  | nil => rfl
  | cons op rest ih =>
    cases op with
    | idle n => cases n with
      | zero => exact ih h
      | succ n => rfl
    | access _ | poll _ _ _ | reset _ => simp [lastAccessIssued] at h

/-- And it issues none later. -/
theorem hostAfter_done {p : List HostOp} (w : Word) (h : lastAccessIssued p = true) :
    lastAccessIssued (hostAfter p w) = true := by
  induction p with
  | nil => rfl
  | cons op rest ih =>
    cases op with
    | idle n => cases n with
      | zero => exact ih h
      | succ n =>
        simp only [hostAfter, skipEmpty]
        split <;> exact h
    | access _ | poll _ _ _ | reset _ => simp [lastAccessIssued] at h

/-- A step of an ended run moves nothing but the record of the ports and the model's own fields. -/
theorem step_after_run {s : State} (h : RunOver s) (hs : s.cfgStage = .idle) :
    step s = .next (closeCycle s (idleBus s)) := by
  obtain ⟨hd, -, hr, hw⟩ := h
  have he : transferAndRegister (agentsNow s) (idleBus s) = idleBus s := by
    rw [transferAndRegister, transferEvents_idle (agentsNow s) (s := idleBus s) hr hw,
      transferStep_idle (agentsNow s) (s := idleBus s) hr hw]
    simp [registerEvents]
  simp only [step, runNextCycle, busNow_done hd, runCycle_live (h := quietBus) _ s rfl]
  simp only [quietBus, cycleBody_quiet, hs, he, stageStep, andThen]

/-- An ended run stays ended, and what it leaves to observe stays. -/
theorem runOver_step {s : State} (h : RunOver s) (hs : s.cfgStage = .idle) :
    ∃ t, step s = .next t ∧ RunOver t ∧ observable t = observable s :=
  ⟨_, step_after_run h hs, ⟨hostAfter_done _ h.1, h.2⟩, rfl⟩

end Sys2Proof.Machine
end

