-- ==== Sys2Proof/Laws/PerInstr.lean ====
section
/-! SUPPORT. Laws of every instruction as syntax, one lemma for each constructor of Instr.
LegalAccess: the access that presents a well-formed instruction is an aligned word access (spec/20_memory.md R71). -/

namespace Sys2Proof.Laws.LegalAccess

/-- The access that presents the instruction is a naturally aligned 32-bit access. -/
def Statement (i : Instr) : Prop :=
  i.WellFormed = true →
    (presentEncoded (encode i)).size = 2#2 ∧ (presentEncoded (encode i)).addr.extractLsb' 0 2 = 0#2

theorem windowKey_low (w : BitVec 5) (i : Nat) : ((windowKey w i).extractLsb' 0 20).extractLsb' 0 2 = 0#2 := by
  unfold windowKey
  ext k hk
  simp only [BitVec.getElem_extractLsb', BitVec.getLsbD_extractLsb', BitVec.getLsbD_append]
  have h1 : k < 2 := hk
  have h2 : k < 20 := by omega
  simp [h1, h2]

theorem nop : Statement .nop := fun _ => by decide
theorem config : Statement .config := fun _ => by decide
theorem enable (p : Bool) : Statement (.enable p) := fun _ => by cases p <;> decide
theorem readBlock : Statement .readBlock := fun _ => by decide
theorem writeBlock : Statement .writeBlock := fun _ => by decide
theorem rdCmd : Statement .rdCmd := fun _ => by decide
theorem rdStatus : Statement .rdStatus := fun _ => by decide
theorem rdErr : Statement .rdErr := fun _ => by decide
theorem rdIrqPend : Statement .rdIrqPend := fun _ => by decide
theorem rdIrqEn : Statement .rdIrqEn := fun _ => by decide
theorem rdCfgRate : Statement .rdCfgRate := fun _ => by decide
theorem rdCfgChan : Statement .rdCfgChan := fun _ => by decide
theorem rdCfgBlock : Statement .rdCfgBlock := fun _ => by decide
theorem rdCfgBus : Statement .rdCfgBus := fun _ => by decide
theorem rdCfgMode : Statement .rdCfgMode := fun _ => by decide
theorem rdMclkHz : Statement .rdMclkHz := fun _ => by decide
theorem rdNSamples : Statement .rdNSamples := fun _ => by decide
theorem rdCfgErr : Statement .rdCfgErr := fun _ => by decide
theorem rdCfgSum : Statement .rdCfgSum := fun _ => by decide
theorem rdParams : Statement .rdParams := fun _ => by decide
theorem rdParamTimeout : Statement .rdParamTimeout := fun _ => by decide
theorem rdParamSettle : Statement .rdParamSettle := fun _ => by decide
theorem rdRdStat : Statement .rdRdStat := fun _ => by decide
theorem rdRptr : Statement .rdRptr := fun _ => by decide
theorem rdWrStat : Statement .rdWrStat := fun _ => by decide
theorem rdWptr : Statement .rdWptr := fun _ => by decide
theorem rdParamMclkMult : Statement .rdParamMclkMult := fun _ => by decide
theorem rdCvtFixIn : Statement .rdCvtFixIn := fun _ => by decide
theorem rdCvtFltOut : Statement .rdCvtFltOut := fun _ => by decide
theorem rdCvtFltIn : Statement .rdCvtFltIn := fun _ => by decide
theorem rdCvtFixOut : Statement .rdCvtFixOut := fun _ => by decide
theorem wrCmd (v : Word) : Statement (.wrCmd v) := fun _ => ⟨rfl, by simp only [encode, presentEncoded]; decide⟩
theorem wrStatus (v : Word) : Statement (.wrStatus v) := fun _ => ⟨rfl, by simp only [encode, presentEncoded]; decide⟩
theorem wrErr (v : Word) : Statement (.wrErr v) := fun _ => ⟨rfl, by simp only [encode, presentEncoded]; decide⟩
theorem wrIrqPend (v : Word) : Statement (.wrIrqPend v) := fun _ => ⟨rfl, by simp only [encode, presentEncoded]; decide⟩
theorem wrIrqEn (v : Word) : Statement (.wrIrqEn v) := fun _ => ⟨rfl, by simp only [encode, presentEncoded]; decide⟩
theorem wrCfgRate (v : Word) : Statement (.wrCfgRate v) := fun _ => ⟨rfl, by simp only [encode, presentEncoded]; decide⟩
theorem wrCfgChan (v : Word) : Statement (.wrCfgChan v) := fun _ => ⟨rfl, by simp only [encode, presentEncoded]; decide⟩
theorem wrCfgBlock (v : Word) : Statement (.wrCfgBlock v) := fun _ => ⟨rfl, by simp only [encode, presentEncoded]; decide⟩
theorem wrCfgBus (v : Word) : Statement (.wrCfgBus v) := fun _ => ⟨rfl, by simp only [encode, presentEncoded]; decide⟩
theorem wrCfgMode (v : Word) : Statement (.wrCfgMode v) := fun _ => ⟨rfl, by simp only [encode, presentEncoded]; decide⟩
theorem wrMclkHz (v : Word) : Statement (.wrMclkHz v) := fun _ => ⟨rfl, by simp only [encode, presentEncoded]; decide⟩
theorem wrNSamples (v : Word) : Statement (.wrNSamples v) := fun _ => ⟨rfl, by simp only [encode, presentEncoded]; decide⟩
theorem wrCfgErr (v : Word) : Statement (.wrCfgErr v) := fun _ => ⟨rfl, by simp only [encode, presentEncoded]; decide⟩
theorem wrCfgSum (v : Word) : Statement (.wrCfgSum v) := fun _ => ⟨rfl, by simp only [encode, presentEncoded]; decide⟩
theorem wrParams (v : Word) : Statement (.wrParams v) := fun _ => ⟨rfl, by simp only [encode, presentEncoded]; decide⟩
theorem wrParamTimeout (v : Word) : Statement (.wrParamTimeout v) := fun _ => ⟨rfl, by simp only [encode, presentEncoded]; decide⟩
theorem wrParamSettle (v : Word) : Statement (.wrParamSettle v) := fun _ => ⟨rfl, by simp only [encode, presentEncoded]; decide⟩
theorem wrRdStat (v : Word) : Statement (.wrRdStat v) := fun _ => ⟨rfl, by simp only [encode, presentEncoded]; decide⟩
theorem wrRptr (v : Word) : Statement (.wrRptr v) := fun _ => ⟨rfl, by simp only [encode, presentEncoded]; decide⟩
theorem wrWrStat (v : Word) : Statement (.wrWrStat v) := fun _ => ⟨rfl, by simp only [encode, presentEncoded]; decide⟩
theorem wrWptr (v : Word) : Statement (.wrWptr v) := fun _ => ⟨rfl, by simp only [encode, presentEncoded]; decide⟩
theorem wrParamMclkMult (v : Word) : Statement (.wrParamMclkMult v) := fun _ => ⟨rfl, by simp only [encode, presentEncoded]; decide⟩
theorem wrCvtFixIn (v : Word) : Statement (.wrCvtFixIn v) := fun _ => ⟨rfl, by simp only [encode, presentEncoded]; decide⟩
theorem wrCvtFltOut (v : Word) : Statement (.wrCvtFltOut v) := fun _ => ⟨rfl, by simp only [encode, presentEncoded]; decide⟩
theorem wrCvtFltIn (v : Word) : Statement (.wrCvtFltIn v) := fun _ => ⟨rfl, by simp only [encode, presentEncoded]; decide⟩
theorem wrCvtFixOut (v : Word) : Statement (.wrCvtFixOut v) := fun _ => ⟨rfl, by simp only [encode, presentEncoded]; decide⟩
theorem rdRbuf (i : Nat) : Statement (.rdRbuf i) := fun _ => ⟨rfl, windowKey_low _ i⟩
theorem rdRbufF (i : Nat) : Statement (.rdRbufF i) := fun _ => ⟨rfl, windowKey_low _ i⟩
theorem rdWbuf (i : Nat) : Statement (.rdWbuf i) := fun _ => ⟨rfl, windowKey_low _ i⟩
theorem rdWbufF (i : Nat) : Statement (.rdWbufF i) := fun _ => ⟨rfl, windowKey_low _ i⟩
theorem wrRbuf (i : Nat) (v : Word) : Statement (.wrRbuf i v) := fun _ => ⟨rfl, windowKey_low _ i⟩
theorem wrRbufF (i : Nat) (v : Word) : Statement (.wrRbufF i v) := fun _ => ⟨rfl, windowKey_low _ i⟩
theorem wrWbuf (i : Nat) (v : Word) : Statement (.wrWbuf i v) := fun _ => ⟨rfl, windowKey_low _ i⟩
theorem wrWbufF (i : Nat) (v : Word) : Statement (.wrWbufF i v) := fun _ => ⟨rfl, windowKey_low _ i⟩

end Sys2Proof.Laws.LegalAccess
end

