-- ==== Sys2Proof/Tests/Slice0.lean ====
section
/-! SUPPORT. Tests: expected values come from spec/ (its vectors in spec/95_test_vectors.md, named F, X, D, A, S, G, M, H, or its
encodings), and for each obligation that has hypotheses a witness that meets them. -/

open Sys2Proof Sys2Proof.Machine

namespace Sys2Proof.Tests

/-! ### WellFormed: an index of 2^14 reaches no window (spec/10_state.md R44) -/

theorem test_ill_formed_window_terms :
    (Instr.rdRbuf 16384).WellFormed = false ∧ (Instr.rdRbufF 16384).WellFormed = false ∧
    (Instr.rdWbuf 16384).WellFormed = false ∧ (Instr.rdWbufF 16384).WellFormed = false ∧
    (Instr.wrRbuf 16384 0#32).WellFormed = false ∧ (Instr.wrRbufF 16384 0#32).WellFormed = false ∧
    (Instr.wrWbuf 16384 0#32).WellFormed = false ∧ (Instr.wrWbufF 16384 0#32).WellFormed = false := by decide

theorem test_well_formed_at_the_last_index :
    (Instr.rdRbuf 16383).WellFormed = true ∧ (Instr.wrWbufF 16383 7#32).WellFormed = true ∧
    (Instr.wrCmd 7#32).WellFormed = true := by decide

/-! ### Decoding: words written out from the spec's encodings -/

/-- spec/30_encoding.md R101, R105, R106, bit by bit: reserved[31:9], ARG[8], reserved[7:4], OP[3:0]. -/
theorem test_decode_commands :
    decodeCommand (0#23 ++ 0#1 ++ 0#4 ++ 0#4) = .ok .nop ∧
    decodeCommand (0#23 ++ 0#1 ++ 0#4 ++ 1#4) = .ok .config ∧
    decodeCommand (0#23 ++ 0#1 ++ 0#4 ++ 2#4) = .ok (.enable false) ∧
    decodeCommand (0#23 ++ 1#1 ++ 0#4 ++ 2#4) = .ok (.enable true) ∧
    decodeCommand (0#23 ++ 0#1 ++ 0#4 ++ 3#4) = .ok .readBlock ∧
    decodeCommand (0#23 ++ 0#1 ++ 0#4 ++ 4#4) = .ok .writeBlock := by decide

/-- Vectors D7 to D12. -/
theorem test_illegal_command_words :
    [0x00000005#32, 0x0000000F#32, 0x00000100#32, 0x00000101#32, 0x00000103#32, 0x00000104#32, 0x00000010#32,
      0x00000012#32, 0x00000080#32, 0x00000202#32, 0x80000002#32, 0xFFFFFFFF#32, 0x00000302#32].all
      (fun w => decide (decodeCommand w = .error .illegalCommand)) = true := by decide

/-- The key of each register read (spec/10_state.md R20, spec/30_encoding.md R104). -/
theorem test_decode_register_reads :
    ∀ p ∈ ([(0x000000#21, .rdCmd), (0x000004#21, .rdStatus), (0x000008#21, .rdErr),
     (0x00000C#21, .rdIrqPend), (0x000010#21, .rdIrqEn), (0x000020#21, .rdCfgRate),
     (0x000024#21, .rdCfgChan), (0x000028#21, .rdCfgBlock), (0x00002C#21, .rdCfgBus),
     (0x000030#21, .rdCfgMode), (0x000034#21, .rdMclkHz), (0x000038#21, .rdNSamples),
     (0x00003C#21, .rdCfgErr), (0x000040#21, .rdCfgSum), (0x000044#21, .rdParams),
     (0x000048#21, .rdParamTimeout), (0x00004C#21, .rdParamSettle), (0x000050#21, .rdRdStat),
     (0x000054#21, .rdRptr), (0x000058#21, .rdWrStat), (0x00005C#21, .rdWptr),
     (0x000060#21, .rdParamMclkMult), (0x000070#21, .rdCvtFixIn), (0x000074#21, .rdCvtFltOut),
     (0x000078#21, .rdCvtFltIn), (0x00007C#21, .rdCvtFixOut)] :
      List (BitVec 21 × Instr)), decodeKey p.1 0#32 = .ok p.2 := by decide

/-- The key of each register write, with its write data. -/
theorem test_decode_register_writes :
    ∀ p ∈ ([(0x100000#21, .wrCmd 0x89ABCDEF#32), (0x100004#21, .wrStatus 0x89ABCDEF#32),
     (0x100008#21, .wrErr 0x89ABCDEF#32), (0x10000C#21, .wrIrqPend 0x89ABCDEF#32),
     (0x100010#21, .wrIrqEn 0x89ABCDEF#32), (0x100020#21, .wrCfgRate 0x89ABCDEF#32),
     (0x100024#21, .wrCfgChan 0x89ABCDEF#32), (0x100028#21, .wrCfgBlock 0x89ABCDEF#32),
     (0x10002C#21, .wrCfgBus 0x89ABCDEF#32), (0x100030#21, .wrCfgMode 0x89ABCDEF#32),
     (0x100034#21, .wrMclkHz 0x89ABCDEF#32), (0x100038#21, .wrNSamples 0x89ABCDEF#32),
     (0x10003C#21, .wrCfgErr 0x89ABCDEF#32), (0x100040#21, .wrCfgSum 0x89ABCDEF#32),
     (0x100044#21, .wrParams 0x89ABCDEF#32), (0x100048#21, .wrParamTimeout 0x89ABCDEF#32),
     (0x10004C#21, .wrParamSettle 0x89ABCDEF#32), (0x100050#21, .wrRdStat 0x89ABCDEF#32),
     (0x100054#21, .wrRptr 0x89ABCDEF#32), (0x100058#21, .wrWrStat 0x89ABCDEF#32),
     (0x10005C#21, .wrWptr 0x89ABCDEF#32), (0x100060#21, .wrParamMclkMult 0x89ABCDEF#32),
     (0x100070#21, .wrCvtFixIn 0x89ABCDEF#32), (0x100074#21, .wrCvtFltOut 0x89ABCDEF#32),
     (0x100078#21, .wrCvtFltIn 0x89ABCDEF#32), (0x10007C#21, .wrCvtFixOut 0x89ABCDEF#32)] :
      List (BitVec 21 × Instr)), decodeKey p.1 0x89ABCDEF#32 = .ok p.2 := by decide

/-- The windows, bit by bit: K[20] write, K[19:16] window, K[15:2] index, K[1:0] = 0 (spec/30_encoding.md R107, R108). -/
theorem test_decode_window_reads :
    decodeKey (0#1 ++ 0x1#4 ++ 3#14 ++ 0#2) 0#32 = .ok (.rdRbuf 3) ∧
    decodeKey (0#1 ++ 0x2#4 ++ 16383#14 ++ 0#2) 0#32 = .ok (.rdRbufF 16383) ∧
    decodeKey (0#1 ++ 0x3#4 ++ 8192#14 ++ 0#2) 0#32 = .ok (.rdWbuf 8192) ∧
    decodeKey (0#1 ++ 0x4#4 ++ 1#14 ++ 0#2) 0#32 = .ok (.rdWbufF 1) := by decide

theorem test_decode_window_writes :
    decodeKey (1#1 ++ 0x1#4 ++ 600#14 ++ 0#2) 1#32 = .ok (.wrRbuf 600 1#32) ∧
    decodeKey (1#1 ++ 0x2#4 ++ 0#14 ++ 0#2) 2#32 = .ok (.wrRbufF 0 2#32) ∧
    decodeKey (1#1 ++ 0x3#4 ++ 16383#14 ++ 0#2) 3#32 = .ok (.wrWbuf 16383 3#32) ∧
    decodeKey (1#1 ++ 0x4#4 ++ 5#14 ++ 0#2) 4#32 = .ok (.wrWbufF 5 4#32) := by decide

/-- A command row is a 32-bit word, an access row a 21-bit key in three bytes. -/
theorem test_decode_table_words :
    decodeTableWord 32 0x00000102 = some (.enable true) ∧ decodeTableWord 24 0x010000 = some (.rdRbuf 0) ∧
    decodeTableWord 24 0x100000 = some (.wrCmd 0#32) ∧ decodeTableWord 32 0x00000005 = none ∧
    decodeTableWord 24 0x000014 = none := by decide

/-! ### The converter -/

/-- Vectors F1 to F17. -/
theorem test_toFloat_vectors_1 :
    toFloat 0x00000000#32 = 0x00000000#32 ∧ toFloat 0x00000100#32 = 0x34000000#32 ∧
    toFloat 0x40000000#32 = 0x3F000000#32 ∧ toFloat 0xC0000000#32 = 0xBF000000#32 ∧
    toFloat 0x7FFFFF00#32 = 0x3F7FFFFE#32 ∧ toFloat 0x80000000#32 = 0xBF800000#32 ∧
    toFloat 0xFFFFFF00#32 = 0xB4000000#32 ∧ toFloat 0x00800000#32 = 0x3B800000#32 ∧
    toFloat 0x12345600#32 = 0x3E11A2B0#32 ∧ toFloat 0x00000001#32 = 0x30000000#32 ∧
    toFloat 0x000000FF#32 = 0x33FF0000#32 ∧ toFloat 0xFFFFFFFF#32 = 0xB0000000#32 ∧
    toFloat 0x00000080#32 = 0x33800000#32 ∧ toFloat 0xFFFFFF80#32 = 0xB3800000#32 ∧
    toFloat 0x0000007F#32 = 0x337E0000#32 ∧ toFloat 0x00FFFFFF#32 = 0x3BFFFFFF#32 ∧
    toFloat 0x01000001#32 = 0x3C000000#32 := by decide

/-- Vectors F18 to F34. -/
theorem test_toFloat_vectors_2 :
    toFloat 0x01000003#32 = 0x3C000002#32 ∧ toFloat 0x7FFFFF40#32 = 0x3F7FFFFE#32 ∧
    toFloat 0x7FFFFF41#32 = 0x3F7FFFFF#32 ∧ toFloat 0x7FFFFF7F#32 = 0x3F7FFFFF#32 ∧
    toFloat 0x7FFFFF80#32 = 0x3F7FFFFF#32 ∧ toFloat 0x7FFFFFBF#32 = 0x3F7FFFFF#32 ∧
    toFloat 0x7FFFFFC0#32 = 0x3F7FFFFF#32 ∧ toFloat 0x7FFFFFFF#32 = 0x3F7FFFFF#32 ∧
    toFloat 0x80000001#32 = 0xBF800000#32 ∧ toFloat 0x800000FF#32 = 0xBF7FFFFE#32 ∧
    toFloat 0x80000100#32 = 0xBF7FFFFE#32 ∧ toFloat 0x81000001#32 = 0xBF7E0000#32 ∧
    toFloat 0x7F000000#32 = 0x3F7E0000#32 ∧ toFloat 0x00000300#32 = 0x34C00000#32 ∧
    toFloat 0x0001FF00#32 = 0x387F8000#32 ∧ toFloat 0x44444400#32 = 0x3F088888#32 ∧
    toFloat 0x11111100#32 = 0x3E088888#32 := by decide

/-- Vectors X1 to X20. -/
theorem test_toFixed_vectors_1 :
    toFixed 0x00000000#32 = 0x00000000#32 ∧ toFixed 0x80000000#32 = 0x00000000#32 ∧
    toFixed 0x3F000000#32 = 0x40000000#32 ∧ toFixed 0xBF000000#32 = 0xC0000000#32 ∧
    toFixed 0x3E800000#32 = 0x20000000#32 ∧ toFixed 0x34000000#32 = 0x00000100#32 ∧
    toFixed 0xB4000000#32 = 0xFFFFFF00#32 ∧ toFixed 0x33800000#32 = 0x00000100#32 ∧
    toFixed 0xB3800000#32 = 0x00000000#32 ∧ toFixed 0x34400000#32 = 0x00000200#32 ∧
    toFixed 0xB4400000#32 = 0xFFFFFF00#32 ∧ toFixed 0x33C00000#32 = 0x00000100#32 ∧
    toFixed 0xB3C00000#32 = 0xFFFFFF00#32 ∧ toFixed 0x34A00000#32 = 0x00000300#32 ∧
    toFixed 0x34C00000#32 = 0x00000300#32 ∧ toFixed 0x3E11A2B0#32 = 0x12345600#32 ∧
    toFixed 0x3F000001#32 = 0x40000100#32 ∧ toFixed 0x3F7FFFFD#32 = 0x7FFFFF00#32 ∧
    toFixed 0x3F7FFFFE#32 = 0x7FFFFF00#32 ∧ toFixed 0x3F7FFFFF#32 = 0x7FFFFF00#32 := by decide

/-- Vectors X21 to X40. -/
theorem test_toFixed_vectors_2 :
    toFixed 0x3F800000#32 = 0x7FFFFF00#32 ∧ toFixed 0x3F800001#32 = 0x7FFFFF00#32 ∧
    toFixed 0x3FC00000#32 = 0x7FFFFF00#32 ∧ toFixed 0x40000000#32 = 0x7FFFFF00#32 ∧
    toFixed 0x4B000000#32 = 0x7FFFFF00#32 ∧ toFixed 0x7F7FFFFF#32 = 0x7FFFFF00#32 ∧
    toFixed 0x7F800000#32 = 0x7FFFFF00#32 ∧ toFixed 0xBF7FFFFE#32 = 0x80000100#32 ∧
    toFixed 0xBF7FFFFF#32 = 0x80000100#32 ∧ toFixed 0xBF800000#32 = 0x80000000#32 ∧
    toFixed 0xBF800001#32 = 0x80000000#32 ∧ toFixed 0xC0000000#32 = 0x80000000#32 ∧
    toFixed 0xFF7FFFFF#32 = 0x80000000#32 ∧ toFixed 0xFF800000#32 = 0x80000000#32 ∧
    toFixed 0x7FC00000#32 = 0x00000000#32 ∧ toFixed 0xFFC00000#32 = 0x00000000#32 ∧
    toFixed 0x7F800001#32 = 0x00000000#32 ∧ toFixed 0x00000001#32 = 0x00000000#32 ∧
    toFixed 0x807FFFFF#32 = 0x00000000#32 ∧ toFixed 0x00800000#32 = 0x00000000#32 := by decide

/-! ### Small states -/

/-- The parameters of spec/95_test_vectors.md section 2.7 and 2.8 (T = 8), with SETTLE_CYCLES = 2. -/
def params8 : Params :=
  { blockBase := 0, numBus := 2, maxSamples := 512, timeout := 8, settle := 2, mclkMult := 384, fClk := 1 }

/-- The agents do nothing. -/
def quiet : AgentIn :=
  { rxValid := false, rxData := 0#32, rxErr := false, txReady := false, txErr := false, perAck := false,
    perStatus := 0#32 }

/-- The RX source offers 0x11223344. -/
def offer : AgentIn := { quiet with rxValid := true, rxData := 0x11223344#32 }

/-- The TX sink is ready. -/
def ready : AgentIn := { quiet with txReady := true }

/-- The configuration responder acknowledges with status 5. -/
def ack5 : AgentIn := { quiet with perAck := true, perStatus := 5#32 }

/-- UNINIT, idle, with fixed parameters. -/
def uninit : State := { State.reset with params := params8 }

/-- CONFIGURED with N = 4, WBUF[1] = 0x000000FF and RBUF[3] = 0xC0000000. -/
def configured : State :=
  { uninit with
    life := .configured, cfgBlock := 2#16, nActive := 4#15, mclkHz := 18432000#32, mclkEn := true
    wbuf := [(4, 0xFF#8)], rbuf := [(15, 0xC0#8)] }

/-- RUNNING with a READ_BLOCK that has stored two words. -/
def reading : State := { configured with life := .running, pwr := true, rdBusy := true, rptr := 2#32, tmr := 2#32 }

/-- POWERED_OFF with a WRITE_BLOCK that has sent one word. -/
def writing : State := { configured with life := .poweredOff, wrBusy := true, wptr := 1#32, tmr := 1#32 }

/-- A CONFIG in stage `c`, at TMR = t, in master mode with the default configuration. -/
def inStage (c : CfgStage) (t : Word) : State :=
  { uninit with cfgBusy := true, cfgStage := c, tmr := t, req := isExternal c }

/-- A property of the next state. -/
def nextHas (o : Host.Outcome State Fault Refusal) (p : State → Bool) : Bool :=
  match o with
  | .next t => p t
  | .fault _ => false
  | .refused _ => false

theorem inv_uninit : Inv uninit := by constructor <;> decide
theorem inv_configured : Inv configured := by constructor <;> decide
theorem inv_reading : Inv reading := by constructor <;> decide
theorem inv_writing : Inv writing := by constructor <;> decide
theorem inv_validate : Inv (inStage .validate 0#32) := by constructor <;> decide
theorem inv_powerDown : Inv (inStage .powerDown 0#32) := by constructor <;> decide
theorem inv_mclk : Inv (inStage .mclk 0#32) := by constructor <;> decide
theorem inv_install_first : Inv (inStage .install 0#32) := by constructor <;> decide
theorem inv_install_last : Inv (inStage .install 7#32) := by constructor <;> decide
theorem inv_pins : Inv (inStage .pins 7#32) := by constructor <;> decide
theorem inv_rate : Inv (inStage .rate 7#32) := by constructor <;> decide
theorem inv_zero : Inv (inStage .zero 7#32) := by constructor <;> decide
theorem inv_clkRoute : Inv (inStage .clkRoute 0#32) := by constructor <;> decide
theorem inv_settle : Inv (inStage .settle 1#32) := by constructor <;> decide
theorem inv_alloc : Inv (inStage .alloc 0#32) := by constructor <;> decide
theorem inv_finish : Inv (inStage .finish 0#32) := by constructor <;> decide

/-! ### One access (vectors A, S, H, V) -/

/-- A1 to A6: the ERR word after each command in U, U*, C, R, Rr, Pw; 0 where it is accepted. -/
theorem test_command_acceptance :
    ∀ p ∈ [(0x00000000#32, [0x000#10, 0x000#10, 0x000#10, 0x000#10, 0x000#10, 0x000#10]),
      (0x00000001#32, [0x000#10, 0x002#10, 0x004#10, 0x004#10, 0x002#10, 0x002#10]),
      (0x00000102#32, [0x000#10, 0x002#10, 0x000#10, 0x000#10, 0x000#10, 0x000#10]),
      (0x00000003#32, [0x004#10, 0x002#10, 0x000#10, 0x000#10, 0x002#10, 0x002#10]),
      (0x00000004#32, [0x004#10, 0x002#10, 0x000#10, 0x000#10, 0x002#10, 0x002#10]),
      (0x00000005#32, [0x001#10, 0x001#10, 0x001#10, 0x001#10, 0x001#10, 0x001#10])],
      (List.zip [uninit, inStage .mclk 0#32, configured, { configured with life := .running, pwr := true }, reading, writing]
        p.2).all (fun q => nextHas (exec (.wrCmd p.1) q.1) (fun t => t.err = q.2 && t.busErr = (q.2 != 0#10))) = true := by
  decide

/-- S1 to S6, S8, S10: the STATUS word after each command. -/
theorem test_lifecycle_status :
    (nextHas (exec (.enable true) { uninit with mclkEn := true }) (fun t => statusWord t = 0x60#32) &&
      nextHas (exec (.enable true) configured) (fun t => statusWord t = 0x61#32) &&
      nextHas (exec (.enable false) { configured with pwr := true }) (fun t => statusWord t = 0x41#32) &&
      nextHas (exec .readBlock { configured with pwr := true }) (fun t => statusWord t = 0x6A#32) &&
      nextHas (exec .writeBlock configured) (fun t => statusWord t = 0x53#32) &&
      nextHas (exec (.enable false) { configured with life := .running, pwr := true }) (fun t => statusWord t = 0x43#32) &&
      nextHas (exec (.enable true) { configured with life := .poweredOff }) (fun t => statusWord t = 0x62#32) &&
      nextHas (exec (.enable false) reading) (fun t => statusWord t = 0x4B#32)) = true := by decide

/-- H1 to H8: an access outside the map and a write of a read-only register. -/
theorem test_refused_accesses :
    (nextHas (hostAccess (rd32 0x00006#20) configured) (fun t => t.err = 0x008#10 && t.busRdata = 0#32) &&
      nextHas (hostAccess { rd32 0x00004#20 with size := 0#2 } configured) (fun t => t.err = 0x008#10) &&
      nextHas (hostAccess { wr32 0x00000#20 1#32 with size := 1#2 } uninit) (fun t => t.err = 0x008#10 && !t.cfgBusy) &&
      nextHas (hostAccess (rd32 0x00014#20) configured) (fun t => t.err = 0x010#10 && t.busRdata = 0#32) &&
      nextHas (hostAccess (wr32 0x00064#20 1#32) configured) (fun t => t.err = 0x010#10) &&
      nextHas (hostAccess (rd32 0x50000#20) configured) (fun t => t.err = 0x010#10) &&
      nextHas (hostAccess (wr32 0x00004#20 1#32) configured) (fun t => t.err = 0x020#10 && t.irqPend = 0x8#4) &&
      nextHas (hostAccess (wr32 0x10960#20 1#32) configured) (fun t => t.err = 0x020#10)) = true := by decide

/-- H10 to H14: the configuration registers. -/
theorem test_config_writes :
    (nextHas (exec (.wrCfgRate 44100#32) configured) (fun t => t.cfgRate = 48000#32 && t.err = 0x040#10) &&
      nextHas (exec (.wrCfgRate 44100#32) uninit) (fun t => t.cfgRate = 44100#32 && t.err = 0#10) &&
      nextHas (exec (.wrCfgMode 0xFFFFFFFF#32) uninit) (fun t => cfgModeWord t.cfgMaster = 0x0F201801#32) &&
      nextHas (exec (.wrCfgMode 0x00000000#32) uninit) (fun t => cfgModeWord t.cfgMaster = 0x0F201800#32) &&
      nextHas (exec (.wrCfgChan 0x000001FF#32) uninit) (fun t => t.cfgChan = 0xFF#8)) = true := by decide

/-- H15, H16, H18, V6, V10: window reads. -/
theorem test_window_reads :
    (nextHas (exec (.rdWbuf 4) configured) (fun t => t.busRdata = 0#32 && t.err = 0x080#10) &&
      nextHas (exec (.rdRbuf 0) uninit) (fun t => t.busRdata = 0#32 && t.err = 0x080#10) &&
      nextHas (exec (.rdRbufF 3) reading) (fun t => t.busRdata = 0xBF000000#32 && t.err = 0x100#10) &&
      nextHas (exec (.rdRbufF 3) configured) (fun t => t.busRdata = 0xBF000000#32 && t.err = 0#10) &&
      nextHas (exec (.rdWbufF 1) configured) (fun t => t.busRdata = 0x33FF0000#32)) = true := by decide

/-- V7, H19, H21, H23: window writes. -/
theorem test_window_writes :
    (nextHas (exec (.wrWbufF 0 0xC0000000#32) configured) (fun t => readWord t.wbuf 0 = 0x80000000#32) &&
      nextHas (exec (.wrWbuf 3 5#32) writing) (fun t => readWord t.wbuf 12 = 5#32 && t.err = 0x200#10) &&
      nextHas (exec (.wrWbuf 600 5#32) writing) (fun t => t.wbuf = writing.wbuf && t.err = 0x080#10) &&
      nextHas (exec (.wrWbuf 0 5#32) reading) (fun t => readWord t.wbuf 0 = 5#32 && t.err = 0#10)) = true := by decide

/-- Storing zero takes the cell away: the canonical form. -/
theorem test_zero_removes_the_cell : writeWord configured.wbuf 4 0#32 = [] ∧ readWord configured.wbuf 4 = 0xFF#32 := by decide

/-! ### One cycle (vectors G, M, K, B) -/

/-- G7, G8: VALIDATE. -/
theorem test_validate :
    (nextHas (runCycle quietBus quiet { inStage .validate 0#32 with cfgChan := 4#8 }) (fun t => t.cfgErr = 0x03#8) &&
      nextHas (runCycle quietBus quiet { inStage .validate 0#32 with cfgBus := 0xFF#8 })
        (fun t => t.cfgErr = 0#8 && t.cfgBus = 1#8)) = true := by decide

/-- M5, M6: the largest rate that fits and the first that does not. -/
theorem test_mclk :
    (nextHas (runCycle quietBus quiet { inStage .mclk 0#32 with cfgRate := 11184810#32 })
        (fun t => t.mclkHz = 0xFFFFFF00#32 && t.cfgErr = 0#8) &&
      nextHas (runCycle quietBus quiet { inStage .mclk 0#32 with cfgRate := 11184811#32 })
        (fun t => t.mclkHz = 0#32 && t.cfgErr = 0x04#8)) = true := by decide

/-- K5's stages: an acknowledge with status 5, a timeout, and K6: an acknowledge in the last cycle wins over the timeout. -/
theorem test_external_stage :
    (nextHas (runCycle quietBus ack5 (inStage .install 0#32))
        (fun t => t.cfgSum = 5#32 && t.cfgErr = 0x08#8 && t.cfgStage = .pins) &&
      nextHas (runCycle quietBus quiet (inStage .rate 7#32)) (fun t => t.cfgErr = 0xA0#8 && t.cfgStage = .zero) &&
      nextHas (runCycle quietBus { ack5 with perStatus := 0#32 } (inStage .zero 7#32))
        (fun t => t.cfgErr = 0#8 && t.cfgStage = .clkRoute)) = true := by decide

/-- spec/95_test_vectors.md section 2.7: the configuration port while the default configuration runs. -/
theorem test_configuration_port :
    ((outputs (inStage .install 0#32)).perArg, (outputs (inStage .install 0#32)).perStage) = (0x20181F00#32, 1#3) ∧
    (outputs { inStage .install 0#32 with cfgMaster := false }).perArg = 0x20181E00#32 ∧
    (outputs (inStage .rate 0#32)).perArg = 0x0000BB80#32 := by decide

/-- B3 and B12: the last busy cycle, with a partial write, and with the word that completes a read. -/
theorem test_last_busy_cycle :
    (nextHas (runCycle quietBus quiet { writing with wptr := 2#32, tmr := 7#32 })
        (fun t => !t.wrBusy && t.wrStat = 0x07#6 && t.wptr = 2#32 && t.irqPend = 0x4#4) &&
      nextHas (runCycle quietBus offer { reading with rptr := 3#32, tmr := 7#32 })
        (fun t => !t.rdBusy && t.rdStat = 0x01#5 && t.rptr = 4#32 && t.irqPend = 0x2#4 &&
          readWord t.rbuf 12 = 0x11223344#32)) = true := by decide

/-- The completion-cycle case of section 2.5: a READ_BLOCK written in the cycle in which the last one completes is accepted. -/
theorem test_command_in_completion_cycle :
    nextHas (runCycle { rstN := true, access := some (wr32 0#20 3#32) } offer { reading with rptr := 3#32 })
      (fun t => t.rdBusy && t.rdStat = 0#5 && t.rptr = 0#32 && t.err = 0#10 && t.irqPend = 0x2#4) = true := by decide

/-- `POLL` stays until the masked word matches, and a table word placed for the next step is run by it. -/
theorem test_host_program :
    hostAfter [.poll 4#20 0x1C#32 0#32] 0x4A#32 = [.poll 4#20 0x1C#32 0#32] ∧
    hostAfter [.poll 4#20 0x1C#32 0#32] 0x42#32 = [] ∧ skipEmpty [.idle 0, .idle 2] = [.idle 2] ∧
    nextHas (step ((State.reset).withFetchWord 24 0x000030)) (fun t => t.busRdata = 0x0F201801#32) = true ∧
    nextHas (step ((State.reset).withFetchWord 32 0x00000001)) (fun t => t.cfgStage = .validate) = true := by decide

/-- A cycle with rst_n = 0 in the middle of a transfer (spec/70_reset_and_hazards.md R290). -/
theorem test_reset_cycle :
    nextHas (runCycle { rstN := false, access := some (wr32 0x10#20 0xF#32) } offer reading)
      (fun t => statusWord t = 0#32 && t.irqEn = 0#4 && t.rptr = 0#32 && t.busErr = false && t.out.rxReady) = true := by
  decide

/-- spec/70_reset_and_hazards.md R290: the read of a reset cycle answers 0. -/
theorem test_reset_read_answers_zero :
    nextHas (runCycle { rstN := false, access := some (rd32 0x30#20) } quiet reading)
      (fun t => t.busRdata = 0#32 && !t.busErr) = true := by decide

/-- spec/70_reset_and_hazards.md R297: a run is not over while the host still has an access to issue, nor while a command is in
flight; an ended one shows N_ACTIVE words of each buffer. -/
theorem test_end_of_run :
    CleanEnd { configured with host := [.idle 3] } ∧ ¬ RunOver { configured with host := [.idle 3, .access (rd32 4#20)] } ∧
    ¬ RunOver { configured with host := [.poll 4#20 0x1C#32 0#32] } ∧ ¬ RunOver reading ∧
    (observable configured).2 = ([0#32, 0#32, 0#32, 0xC0000000#32], [0#32, 0xFF#32, 0#32, 0#32]) := by decide

/-! ### Witnesses: the hypotheses of each obligation are met -/

theorem witness_DecodeEncodeRoundTrip :
    (Instr.rdRbuf 16383).WellFormed = true ∧ (Instr.wrWbufF 0 5#32).WellFormed = true ∧
    Instr.readBlock.WellFormed = true := by decide

theorem witness_CommandWordsAreTheSixLegalOnes :
    0x00000100#32 ∉ [0x00000000#32, 0x00000001#32, 0x00000002#32, 0x00000102#32, 0x00000003#32, 0x00000004#32] := by
  decide

theorem witness_DecodedKeyEncodesBack :
    decodeKey 0x14FFFC#21 5#32 = .ok (.wrWbufF 16383 5#32) ∧ decodeKey 0x00007C#21 5#32 = .ok .rdCvtFixOut := by decide

/-- Each way to be misaligned, as a read and as a write. -/
theorem witness_MisalignedAccessRaisesBusAlign :
    ({ rd32 0x00004#20 with size := 3#2 }).size ≠ 2#2 ∧ ({ wr32 0#20 1#32 with size := 1#2 }).size ≠ 2#2 ∧
    (rd32 0x00001#20).addr.extractLsb' 0 2 ≠ 0#2 ∧ (wr32 0xFFFFF#20 0#32).addr.extractLsb' 0 2 ≠ 0#2 := by decide

/-- The bounds of the unmapped ranges are aligned, and so are the offsets beside them, which decode. -/
theorem witness_UnmappedOffsetsRaiseBusUnmapped :
    [0x00014#20, 0x0001C#20, 0x00064#20, 0x0006C#20, 0x00080#20, 0x0FFFC#20, 0x50000#20, 0xFFFFC#20].all
      (fun a => decide ((rd32 a).size = 2#2 ∧ (rd32 a).addr.extractLsb' 0 2 = 0#2 ∧
        decodeAccess (rd32 a) = .error .unmapped ∧ decodeAccess (wr32 a 0#32) = .error .unmapped)) = true ∧
    decodeAccess (rd32 0x00010#20) = .ok .rdIrqEn ∧ decodeAccess (rd32 0x00020#20) = .ok .rdCfgRate ∧
    decodeAccess (rd32 0x00060#20) = .ok .rdParamMclkMult ∧ decodeAccess (rd32 0x00070#20) = .ok .rdCvtFixIn ∧
    decodeAccess (rd32 0x0007C#20) = .ok .rdCvtFixOut ∧ decodeAccess (rd32 0x10000#20) = .ok (.rdRbuf 0) ∧
    decodeAccess (wr32 0x4FFFC#20 0#32) = .ok (.wrWbufF 16383 0#32) := by decide

theorem witness_StatusReadShowsItsFields :
    uninit.life = .uninit ∧ configured.life = .configured ∧ reading.life = .running ∧ writing.life = .poweredOff := by decide

/-- The least and the greatest legal parameters. -/
theorem witness_ParameterReadsShowTheParameters :
    State.params { uninit with params := ⟨0, 1, 512, 1, 0, 1, 1⟩ } = ⟨0, 1, 512, 1, 0, 1, 1⟩ ∧
    Params.legal ⟨0, 1, 512, 1, 0, 1, 1⟩ ∧
    Params.legal ⟨2 ^ 20, 256, 16384, 2 ^ 32 - 1, 2 ^ 32 - 1, 2 ^ 32 - 1, 5⟩ := by decide

/-- Of a block of 4 words: the first and the last index, idle and during a READ_BLOCK, and the first beyond. -/
theorem witness_WindowReadsAnswerTheWord :
    (0 < configured.nActive.toNat ∧ 3 < configured.nActive.toNat ∧ configured.rdBusy = false) ∧
    (3 < reading.nActive.toNat ∧ reading.rdBusy = true) ∧ configured.nActive.toNat ≤ 4 ∧ uninit.nActive.toNat ≤ 0 := by
  decide

theorem witness_ReadOnlyWritesRaiseBusRo :
    Instr.wrStatus 1#32 ∈ readOnlyWrites 1#32 ++ [.wrRbuf 600 1#32, .wrRbufF 600 1#32] ∧
    Instr.wrRbufF 600 1#32 ∈ readOnlyWrites 1#32 ++ [.wrRbuf 600 1#32, .wrRbufF 600 1#32] := by decide

theorem witness_ConfigWritesStoreOnlyWhileUnlocked :
    (uninit.life = .uninit ∧ uninit.cfgBusy = false) ∧ configured.life ≠ .uninit ∧
    ((inStage .settle 1#32).life = .uninit ∧ (inStage .settle 1#32).cfgBusy = true) ∧
    Instr.wrCfgMode 0#32 ∈ configWrites 0#32 := by decide

theorem witness_WbufWritesStoreTheWord :
    (3 < configured.nActive.toNat ∧ configured.wrBusy = false) ∧ (3 < writing.nActive.toNat ∧ writing.wrBusy = true) ∧
    configured.nActive.toNat ≤ 4 := by decide

theorem witness_WbufWriteReadsBack :
    Memory.wf configured.wbuf = true ∧ 3 < configured.nActive.toNat ∧
    (∃ t, exec (.wrWbuf 3 7#32) configured = .next t) ∧ (∃ t, exec (.wrWbufF 3 7#32) configured = .next t) :=
  ⟨by decide, by decide, ⟨_, rfl⟩, ⟨_, rfl⟩⟩

theorem witness_IllegalCommandWordRaisesOnlyCmdIllegal :
    0x00000005#32 ∉ [0x00000000#32, 0x00000001#32, 0x00000002#32, 0x00000102#32, 0x00000003#32, 0x00000004#32] ∧
    0x00000103#32 ∉ [0x00000000#32, 0x00000001#32, 0x00000002#32, 0x00000102#32, 0x00000003#32, 0x00000004#32] ∧
    0xFFFFFFFF#32 ∉ [0x00000000#32, 0x00000001#32, 0x00000002#32, 0x00000102#32, 0x00000003#32, 0x00000004#32] := by
  decide

theorem witness_CmdWriteDoesTheCommand :
    decodeCommand 0x00000102#32 = .ok (.enable true) ∧ (Idle uninit ∧ uninit.life = .uninit) ∧ reading.cfgBusy = false ∧
    (Idle configured ∧ configured.life ≠ .uninit) := by decide

theorem witness_ConfigAcceptedStartsSequencer : Idle uninit ∧ uninit.life = .uninit := by decide

/-- ENABLE in each lifecycle state, during a READ_BLOCK and a WRITE_BLOCK. -/
theorem witness_EnableSetsPower :
    (uninit.cfgBusy = false ∧ uninit.life = .uninit) ∧ (configured.cfgBusy = false ∧ configured.life = .configured) ∧
    (reading.cfgBusy = false ∧ reading.life = .running) ∧ (writing.cfgBusy = false ∧ writing.life = .poweredOff) := by
  decide

/-- Each clause: CONFIGURED with and without power, and POWERED_OFF. -/
theorem witness_TransferCommandsAccepted :
    (Idle configured ∧ configured.life = .configured ∧ configured.pwr = false) ∧
    (Idle { configured with pwr := true } ∧ State.life { configured with pwr := true } = .configured) ∧
    (Idle { configured with life := .poweredOff } ∧ State.life { configured with life := .poweredOff } ≠ .configured) := by
  decide

theorem witness_RejectedCommandRaisesOneError :
    (inStage .mclk 0#32).cfgBusy = true ∧ reading.rdBusy = true ∧ writing.wrBusy = true ∧
    (Idle configured ∧ configured.life ≠ .uninit) ∧ (Idle uninit ∧ uninit.life = .uninit) ∧
    decodeCommand 5#32 = .error .illegalCommand := by decide

/-- A register read, and a window read with a hazard and out of range. -/
theorem witness_ReadFrame :
    Instr.rdStatus ∈ registerReads ++ windowReads 0 ∧ Instr.rdRbuf 3 ∈ registerReads ++ windowReads 3 ∧
    (∃ t, exec .rdStatus reading = .next t) ∧ (∃ t, exec (.rdRbuf 3) reading = .next t) ∧
    (∃ t, exec (.rdWbufF 4) reading = .next t) :=
  ⟨by decide, by decide, ⟨_, rfl⟩, ⟨_, rfl⟩, ⟨_, rfl⟩⟩

theorem witness_RegisterWriteFrame :
    (∃ t, exec (.wrErr 1#32) reading = .next t) ∧ (∃ t, exec (.wrIrqPend 1#32) reading = .next t) ∧
    (∃ t, exec (.wrIrqEn 1#32) reading = .next t) ∧ (∃ t, exec (.wrCvtFixIn 1#32) reading = .next t) ∧
    (∃ t, exec (.wrCvtFltIn 1#32) reading = .next t) ∧ (∃ t, exec (.wrCfgRate 1#32) uninit = .next t) ∧
    (∃ t, exec (.wrCfgChan 1#32) uninit = .next t) ∧ (∃ t, exec (.wrCfgBlock 1#32) uninit = .next t) ∧
    (∃ t, exec (.wrCfgBus 1#32) uninit = .next t) ∧ (∃ t, exec (.wrCfgMode 1#32) reading = .next t) ∧
    (∃ t, exec (.wrStatus 1#32) reading = .next t) :=
  ⟨⟨_, rfl⟩, ⟨_, rfl⟩, ⟨_, rfl⟩, ⟨_, rfl⟩, ⟨_, rfl⟩, ⟨_, rfl⟩, ⟨_, rfl⟩, ⟨_, rfl⟩, ⟨_, rfl⟩, ⟨_, rfl⟩, ⟨_, rfl⟩⟩

theorem witness_WindowWriteFrame :
    (∃ t, exec (.wrWbuf 3 1#32) writing = .next t) ∧ (∃ t, exec (.wrWbufF 4 1#32) writing = .next t) ∧
    (∃ t, exec (.wrRbuf 0 1#32) writing = .next t) ∧ (∃ t, exec (.wrRbufF 600 1#32) writing = .next t) :=
  ⟨⟨_, rfl⟩, ⟨_, rfl⟩, ⟨_, rfl⟩, ⟨_, rfl⟩⟩

theorem witness_CommandFrame :
    (∃ t, exec .nop reading = .next t) ∧ (∃ t, exec .config uninit = .next t) ∧
    (∃ t, exec (.enable false) reading = .next t) ∧ (∃ t, exec .readBlock configured = .next t) ∧
    (∃ t, exec .writeBlock reading = .next t) ∧ (∃ t, exec (.wrCmd 5#32) reading = .next t) :=
  ⟨⟨_, rfl⟩, ⟨_, rfl⟩, ⟨_, rfl⟩, ⟨_, rfl⟩, ⟨_, rfl⟩, ⟨_, rfl⟩⟩

/-- A read and a write presented by the host program. -/
theorem witness_StepRunsTheDecodedInstruction :
    (busNow [.access (rd32 4#20)] = { rstN := true, access := some (rd32 4#20) } ∧
      decodeAccess (rd32 4#20) = .ok .rdStatus ∧ (rd32 4#20).write = false) ∧
    (busNow [.access (wr32 0#20 1#32)] = { rstN := true, access := some (wr32 0#20 1#32) } ∧
      decodeAccess (wr32 0#20 1#32) = .ok (.wrCmd 1#32) ∧ (wr32 0#20 1#32).write = true) := by decide

/-- A reset cycle with no access, with a read and with a write. -/
theorem witness_ResetGivesResetValues :
    (BusIn.mk false none).rstN = false ∧ (BusIn.mk false (some (rd32 4#20))).rstN = false ∧
    (BusIn.mk false (some (wr32 0x10#20 0xF#32))).rstN = false ∧ (rd32 4#20).write = false := by decide

theorem witness_StreamAndStatusPorts :
    (reading.rdBusy = true ∧ reading.wrBusy = false ∧ reading.cfgChan = 2#8) ∧
    (writing.wrBusy = true ∧ writing.rdBusy = false ∧ writing.cfgChan = 2#8) := by decide

/-- Each external stage, and one state in none. -/
theorem witness_ConfigurationPortOutputs :
    Inv (inStage .install 7#32) ∧ Inv (inStage .pins 7#32) ∧ Inv (inStage .rate 7#32) ∧ Inv (inStage .zero 7#32) ∧
    Inv (inStage .settle 1#32) ∧ (inStage .install 7#32).cfgStage = .install ∧
    (inStage .settle 1#32).cfgStage ∉ [.install, .pins, .rate, .zero] :=
  ⟨inv_install_last, inv_pins, inv_rate, inv_zero, inv_settle, by decide, by decide⟩

/-- States at the last word and at the last busy cycle of a transfer. -/
def readingLastWord : State := { reading with rptr := 3#32 }
def readingLastCycle : State := { reading with tmr := 7#32, rdStat := 0x08#5 }
def writingLastWord : State := { writing with wptr := 3#32 }
def writingLastCycle : State := { writing with tmr := 7#32 }
def writingNothing : State := { writing with wptr := 0#32, tmr := 7#32, wrStat := 0x08#6 }

theorem inv_readingLastWord : Inv readingLastWord := by constructor <;> decide
theorem inv_readingLastCycle : Inv readingLastCycle := by constructor <;> decide
theorem inv_writingLastWord : Inv writingLastWord := by constructor <;> decide
theorem inv_writingLastCycle : Inv writingLastCycle := by constructor <;> decide
theorem inv_writingNothing : Inv writingNothing := by constructor <;> decide

/-- The host polls STATUS. -/
def poll : BusIn := { rstN := true, access := some (rd32 4#20) }

/-- The host writes a command word. -/
def command (w : Word) : BusIn := { rstN := true, access := some (wr32 0#20 w) }

/-- With and without a word; with a poll, a READ_BLOCK that is refused and one that is accepted after the end. -/
theorem witness_RxWordStoredAtReadPointer :
    (Inv reading ∧ reading.rdBusy = true ∧ poll.rstN = true ∧ offer.rxValid = true ∧ quiet.rxValid = false) ∧
    (presentedCommand poll ≠ some .readBlock ∧ (∃ t, runCycle poll offer reading = .next t) ∧
      ∃ t, runCycle poll quiet reading = .next t) ∧
    (presentedCommand (command 3#32) = some .readBlock ∧ (transferStep offer reading).rdBusy = true ∧
      ∃ t, runCycle (command 3#32) offer reading = .next t) ∧
    (Inv readingLastWord ∧ (transferStep offer readingLastWord).rdBusy = false ∧
      ∃ t, runCycle (command 3#32) offer readingLastWord = .next t) :=
  ⟨⟨inv_reading, by decide, by decide, by decide, by decide⟩, ⟨by decide, ⟨_, rfl⟩, ⟨_, rfl⟩⟩,
    ⟨by decide, by decide, ⟨_, rfl⟩⟩, ⟨inv_readingLastWord, by decide, ⟨_, rfl⟩⟩⟩

/-- With the sink ready and not; with a poll, and a WRITE_BLOCK that is accepted after the end; an access below the windows of
WBUF, one above and a read in them. -/
theorem witness_TxWordSentFromWritePointer :
    (Inv writing ∧ writing.wrBusy = true ∧ ready.txReady = true ∧ quiet.txReady = false) ∧
    (presentedCommand poll ≠ some .writeBlock ∧ (∃ t, runCycle poll ready writing = .next t) ∧
      ∃ t, runCycle poll quiet writing = .next t) ∧
    (Inv writingLastWord ∧ presentedCommand (command 4#32) = some .writeBlock ∧
      (transferStep ready writingLastWord).wrBusy = false ∧
      ∃ t, runCycle (command 4#32) ready writingLastWord = .next t) ∧
    (wr32 0x2FFFC#20 0#32).addr.toNat < 0x30000 ∧ 0x50000 ≤ (wr32 0x50000#20 0#32).addr.toNat ∧
    (rd32 0x30000#20).write = false :=
  ⟨⟨inv_writing, by decide, by decide, by decide⟩, ⟨by decide, ⟨_, rfl⟩, ⟨_, rfl⟩⟩,
    ⟨inv_writingLastWord, by decide, by decide, ⟨_, rfl⟩⟩, by decide, by decide, by decide⟩

/-- Each end: complete, timed out with some words and with none; and a transfer that goes on. -/
theorem witness_FinalStatusWords :
    (readingLastWord.rdBusy = true ∧ (transferStep offer readingLastWord).rdBusy = false ∧
      (transferStep offer readingLastWord).rptr.toNat = readingLastWord.nActive.toNat) ∧
    (readingLastCycle.rdBusy = true ∧ (transferStep quiet readingLastCycle).rdBusy = false ∧
      (transferStep quiet readingLastCycle).rptr.toNat ≠ readingLastCycle.nActive.toNat) ∧
    (transferStep quiet reading).rdBusy = true ∧
    (writingLastWord.wrBusy = true ∧ (transferStep ready writingLastWord).wrBusy = false ∧
      (transferStep ready writingLastWord).wptr.toNat = writingLastWord.nActive.toNat) ∧
    (writingLastCycle.wrBusy = true ∧ (transferStep quiet writingLastCycle).wrBusy = false ∧
      0 < (transferStep quiet writingLastCycle).wptr.toNat ∧
      (transferStep quiet writingLastCycle).wptr.toNat < writingLastCycle.nActive.toNat) ∧
    (writingNothing.wrBusy = true ∧ (transferStep quiet writingNothing).wrBusy = false ∧
      (transferStep quiet writingNothing).wptr.toNat = 0) ∧ (transferStep quiet writing).wrBusy = true := by decide

/-- Each end and a transfer that goes on, with a poll, with no access, and with a transfer command that is refused. -/
theorem witness_TransferEndsByCompletionOrTimeout :
    (poll.rstN = true ∧ presentedCommand poll = none ∧ presentedInstr poll = some .rdStatus ∧ quietBus.access = none) ∧
    ((Inv readingLastWord ∧ readingLastWord.rdBusy = true ∧ ∃ t, runCycle poll offer readingLastWord = .next t) ∧
      (Inv readingLastCycle ∧ ∃ t, runCycle poll quiet readingLastCycle = .next t) ∧
      (Inv reading ∧ ∃ t, runCycle quietBus quiet reading = .next t)) ∧
    ((Inv writingLastWord ∧ writingLastWord.wrBusy = true ∧ ∃ t, runCycle poll ready writingLastWord = .next t) ∧
      (Inv writingNothing ∧ ∃ t, runCycle quietBus quiet writingNothing = .next t) ∧
      (Inv writing ∧ ∃ t, runCycle poll quiet writing = .next t)) ∧
    (presentedCommand (command 3#32) = some .readBlock ∧ ¬ Idle (transferStep quiet reading) ∧
      ∃ t, runCycle (command 3#32) quiet reading = .next t) :=
  ⟨by decide,
    ⟨⟨inv_readingLastWord, by decide, ⟨_, rfl⟩⟩, ⟨inv_readingLastCycle, ⟨_, rfl⟩⟩, ⟨inv_reading, ⟨_, rfl⟩⟩⟩,
    ⟨⟨inv_writingLastWord, by decide, ⟨_, rfl⟩⟩, ⟨inv_writingNothing, ⟨_, rfl⟩⟩, ⟨inv_writing, ⟨_, rfl⟩⟩⟩,
    ⟨by decide, by decide, ⟨_, rfl⟩⟩⟩

theorem witness_TransferInFlightEndsOrCounts :
    (Inv readingLastWord ∧ readingLastWord.rdBusy = true ∧
      ∃ t, runCycle { rstN := true, access := some (wr32 0#20 3#32) } offer readingLastWord = .next t) ∧
    (Inv writing ∧ writing.wrBusy = true ∧ ∃ t, runCycle quietBus quiet writing = .next t) :=
  ⟨⟨inv_readingLastWord, by decide, ⟨_, rfl⟩⟩, ⟨inv_writing, by decide, ⟨_, rfl⟩⟩⟩

theorem witness_ValidateClampsAndChecks :
    Inv (inStage .validate 0#32) ∧ (inStage .validate 0#32).cfgStage = .validate ∧ quietBus.rstN = true ∧
    ∃ t, runCycle quietBus quiet (inStage .validate 0#32) = .next t :=
  ⟨inv_validate, by decide, by decide, ⟨_, rfl⟩⟩

/-- POWER_DOWN, and MCLK at the largest rate that fits and the first that does not. -/
theorem witness_PowerDownAndMclkStages :
    (Inv (inStage .powerDown 0#32) ∧ ∃ t, runCycle quietBus quiet (inStage .powerDown 0#32) = .next t) ∧
    (Inv { inStage .mclk 0#32 with cfgRate := 11184810#32 } ∧
      ∃ t, runCycle quietBus quiet { inStage .mclk 0#32 with cfgRate := 11184810#32 } = .next t) ∧
    (Inv { inStage .mclk 0#32 with cfgRate := 11184811#32 } ∧
      ∃ t, runCycle quietBus quiet { inStage .mclk 0#32 with cfgRate := 11184811#32 } = .next t) ∧
    1 ≤ 11184810 * params8.mclkMult ∧ 11184810 * params8.mclkMult ≤ 2 ^ 32 - 1 ∧
    ¬ 11184811 * params8.mclkMult ≤ 2 ^ 32 - 1 :=
  ⟨⟨inv_powerDown, ⟨_, rfl⟩⟩, ⟨by constructor <;> decide, ⟨_, rfl⟩⟩, ⟨by constructor <;> decide, ⟨_, rfl⟩⟩,
    by decide, by decide, by decide⟩

/-- An acknowledge, a wait and the last cycle, over the external stages. -/
theorem witness_ExternalStageHandshake :
    (Inv (inStage .install 0#32) ∧ ack5.perAck = true ∧ ∃ t, runCycle quietBus ack5 (inStage .install 0#32) = .next t) ∧
    (quiet.perAck = false ∧ (inStage .install 0#32).tmr.toNat + 1 < (inStage .install 0#32).params.timeout ∧
      ∃ t, runCycle quietBus quiet (inStage .install 0#32) = .next t) ∧
    (Inv (inStage .pins 7#32) ∧ (inStage .pins 7#32).params.timeout ≤ (inStage .pins 7#32).tmr.toNat + 1 ∧
      ∃ t, runCycle quietBus quiet (inStage .pins 7#32) = .next t) ∧
    (Inv (inStage .rate 7#32) ∧ ∃ t, runCycle quietBus quiet (inStage .rate 7#32) = .next t) ∧
    (Inv (inStage .zero 7#32) ∧ ∃ t, runCycle quietBus ack5 (inStage .zero 7#32) = .next t) :=
  ⟨⟨inv_install_first, by decide, ⟨_, rfl⟩⟩, ⟨by decide, by decide, ⟨_, rfl⟩⟩, ⟨inv_pins, by decide, ⟨_, rfl⟩⟩,
    ⟨inv_rate, ⟨_, rfl⟩⟩, ⟨inv_zero, ⟨_, rfl⟩⟩⟩

/-- CLK_ROUTE with and without SETTLE_CYCLES, SETTLE in its first and its last cycle, ALLOC. -/
theorem witness_ClockSettleAllocStages :
    (Inv (inStage .clkRoute 0#32) ∧ (inStage .clkRoute 0#32).params.settle ≠ 0 ∧
      ∃ t, runCycle quietBus quiet (inStage .clkRoute 0#32) = .next t) ∧
    (Inv { inStage .clkRoute 0#32 with params := { params8 with settle := 0 } } ∧
      ∃ t, runCycle quietBus quiet { inStage .clkRoute 0#32 with params := { params8 with settle := 0 } } = .next t) ∧
    (Inv { inStage .settle 1#32 with tmr := 0#32 } ∧
      (State.tmr { inStage .settle 1#32 with tmr := 0#32 }).toNat + 1 < params8.settle) ∧
    (Inv (inStage .settle 1#32) ∧ (inStage .settle 1#32).params.settle ≤ (inStage .settle 1#32).tmr.toNat + 1 ∧
      ∃ t, runCycle quietBus quiet (inStage .settle 1#32) = .next t) ∧
    (Inv (inStage .alloc 0#32) ∧ ∃ t, runCycle quietBus quiet (inStage .alloc 0#32) = .next t) :=
  ⟨⟨inv_clkRoute, by decide, ⟨_, rfl⟩⟩, ⟨by constructor <;> decide, ⟨_, rfl⟩⟩, ⟨by constructor <;> decide, by decide⟩,
    ⟨inv_settle, by decide, ⟨_, rfl⟩⟩, ⟨inv_alloc, ⟨_, rfl⟩⟩⟩

/-- FINISH with success and with failure. -/
theorem witness_FinishStageResult :
    (Inv (inStage .finish 0#32) ∧ (inStage .finish 0#32).cfgStage = .finish ∧ (inStage .finish 0#32).cfgErr = 0#8 ∧
      ∃ t, runCycle quietBus quiet (inStage .finish 0#32) = .next t) ∧
    (Inv { inStage .finish 0#32 with cfgErr := 0xF8#8 } ∧
      ∃ t, runCycle quietBus quiet { inStage .finish 0#32 with cfgErr := 0xF8#8 } = .next t) :=
  ⟨⟨inv_finish, by decide, by decide, ⟨_, rfl⟩⟩, ⟨by constructor <;> decide, ⟨_, rfl⟩⟩⟩

theorem witness_PowerInactiveAfterConfig :
    Inv (inStage .finish 0#32) ∧ (inStage .finish 0#32).cfgBusy = true ∧
    ∃ t, step (inStage .finish 0#32) = .next t ∧ t.cfgBusy = false :=
  ⟨inv_finish, by decide, ⟨_, rfl, rfl⟩⟩

theorem witness_InvariantKeptByEveryStep :
    Inv { reading with agents := [offer] } ∧ ∃ t, step { reading with agents := [offer] } = .next t :=
  ⟨by constructor <;> decide, ⟨_, rfl⟩⟩

theorem witness_BuffersStayCanonical :
    (Memory.wf reading.rbuf = true ∧ Memory.wf reading.wbuf = true) ∧
    ∃ t, step { reading with agents := [offer] } = .next t :=
  ⟨by decide, ⟨_, rfl⟩⟩

/-- A transfer, and a CONFIG that no responder answers. -/
theorem witness_BlockNeverHangs :
    (Inv writing ∧ writing.cfgBusy = false ∧ writing.params.timeout ≤ (List.replicate 8 quiet).length) ∧
    (Inv (inStage .validate 0#32) ∧ (inStage .validate 0#32).cfgBusy = true ∧
      6 + 4 * (inStage .validate 0#32).params.timeout + (inStage .validate 0#32).params.settle ≤
        (List.replicate 40 quiet).length) :=
  ⟨⟨inv_writing, by decide, by decide⟩, ⟨inv_validate, by decide, by decide⟩⟩

/-- A reset, FINISH, ENABLE in RUNNING, READ_BLOCK in CONFIGURED. -/
theorem witness_LifecycleTransitions :
    (Inv reading ∧ ∃ t, runCycle { rstN := false, access := none } quiet reading = .next t) ∧
    (Inv (inStage .finish 0#32) ∧ ∃ t, runCycle quietBus quiet (inStage .finish 0#32) = .next t) ∧
    (presentedCommand { rstN := true, access := some (wr32 0#20 2#32) } = some (.enable false) ∧
      ∃ t, runCycle { rstN := true, access := some (wr32 0#20 2#32) } quiet reading = .next t) ∧
    (Inv configured ∧ presentedCommand { rstN := true, access := some (wr32 0#20 3#32) } = some .readBlock ∧
      Idle (transferStep quiet configured) ∧
      ∃ t, runCycle { rstN := true, access := some (wr32 0#20 3#32) } quiet configured = .next t) :=
  ⟨⟨inv_reading, ⟨_, rfl⟩⟩, ⟨inv_finish, ⟨_, rfl⟩⟩, ⟨by decide, ⟨_, rfl⟩⟩,
    ⟨inv_configured, by decide, by decide, ⟨_, rfl⟩⟩⟩

/-- A refused configuration write after the setup, a stored one and an ENABLE in idle UNINIT, and a stage of a CONFIG. -/
theorem witness_ConfigurationImmutableAfterSetup :
    (Inv configured ∧ configured.life ≠ .uninit ∧
      ∃ t, runCycle { rstN := true, access := some (wr32 0x20#20 44100#32) } quiet configured = .next t) ∧
    (Inv uninit ∧ (∃ t, runCycle { rstN := true, access := some (wr32 0x20#20 44100#32) } quiet uninit = .next t) ∧
      ∃ t, runCycle (command 0x102#32) quiet uninit = .next t) ∧
    (Inv (inStage .settle 1#32) ∧ (inStage .settle 1#32).cfgBusy = true ∧
      (inStage .settle 1#32).cfgStage ∉ [.validate, .powerDown, .mclk, .clkRoute, .finish] ∧
      ∃ t, runCycle quietBus quiet (inStage .settle 1#32) = .next t) :=
  ⟨⟨inv_configured, by decide, ⟨_, rfl⟩⟩, ⟨inv_uninit, ⟨_, rfl⟩, ⟨_, rfl⟩⟩, ⟨inv_settle, by decide, by decide, ⟨_, rfl⟩⟩⟩

theorem witness_AtMostOneErrorPerAccess :
    (∃ t, hostAccess (rd32 0x00014#20) reading = .next t) ∧ (∃ t, hostAccess (rd32 0x00004#20) reading = .next t) ∧
    (∃ t, runCycle quietBus quiet readingLastCycle = .next t) :=
  ⟨⟨_, rfl⟩, ⟨_, rfl⟩, ⟨_, rfl⟩⟩

theorem witness_SetWinsOverClear :
    Inv readingLastWord ∧
    ∃ t, runCycle { rstN := true, access := some (wr32 0x0000C#20 0xF#32) } offer readingLastWord = .next t :=
  ⟨inv_readingLastWord, ⟨_, rfl⟩⟩

/-- The RX handshake, and an in-range write of each WBUF window. -/
theorem witness_BufferWritersAreTheListedOnes :
    (reading.cfgStage ≠ .alloc ∧ quietBus.rstN = true ∧ ∃ t, runCycle quietBus offer reading = .next t) ∧
    (∃ t, runCycle { rstN := true, access := some (wr32 0x3000C#20 7#32) } quiet configured = .next t) ∧
    (∃ t, runCycle { rstN := true, access := some (wr32 0x4000C#20 7#32) } quiet configured = .next t) :=
  ⟨⟨by decide, by decide, ⟨_, rfl⟩⟩, ⟨_, rfl⟩, ⟨_, rfl⟩⟩

theorem witness_IdleAgentInputsIgnored :
    configured.rdBusy = false ∧ configured.wrBusy = false ∧ configured.cfgStage ∉ [.install, .pins, .rate, .zero] ∧
    (inStage .settle 1#32).cfgStage ∉ [.install, .pins, .rate, .zero] := by decide

/-- A zero and a non-zero result. -/
theorem witness_ToFloatRange :
    floatExp (toFloat 0x00000000#32) = 0 ∧ toFloat 0x00000001#32 ≠ 0x00000000#32 := by decide

theorem witness_ToFloatExactOnSamples :
    (0x7FFFFF00#32).extractLsb' 0 8 = 0#8 ∧ (0x80000000#32).extractLsb' 0 8 = 0#8 ∧ (0x00000000#32).extractLsb' 0 8 = 0#8 := by
  decide

theorem witness_ToFloatClampRegion :
    0x7FFFFFC0 ≤ (0x7FFFFFC0#32).toInt ∧ 0x7FFFFFC0 ≤ (0x7FFFFFFF#32).toInt ∧ (0x80000000#32).toInt < 0 ∧
    ((-2 ^ 31 : Int) ≤ 2 ^ 31 - 65 ∧ (2 ^ 31 - 1 : Int) < 2 ^ 31) := by decide

/-- Finite patterns at the edges of each clause: 1 - 2^-24, 1 - 2^-23, -1 - 2^-23, -1, -(1 - 2^-24). -/
theorem witness_ToFixedRoundsAndSaturates :
    [0x3F7FFFFF#32, 0x3F7FFFFE#32, 0xBF800001#32, 0xBF800000#32, 0xBF7FFFFF#32].all
      (fun b => !isNaN b && !isInf b) = true ∧
    2 ^ 149 - 2 ^ 125 ≤ floatVal 0x3F7FFFFF#32 ∧ ¬ 2 ^ 149 - 2 ^ 125 ≤ floatVal 0x3F7FFFFE#32 ∧
    floatVal 0xBF800001#32 < -2 ^ 149 - 2 ^ 125 ∧ floatVal 0xBF800000#32 ≤ -2 ^ 149 ∧
    ¬ floatVal 0xBF7FFFFF#32 ≤ -2 ^ 149 := by decide

theorem witness_ToFixedFormatAndSpecialInputs :
    floatExp 0x80000000#32 = 0 ∧ floatExp 0x807FFFFF#32 = 0 ∧
    (floatExp 0x7F800001#32 = 0xFF ∧ floatFrac 0x7F800001#32 ≠ 0) ∧
    (floatExp 0xFFC00000#32 = 0xFF ∧ floatFrac 0xFFC00000#32 ≠ 0) := by decide

/-- The edges of the three laws. -/
theorem witness_ConversionRoundTrip :
    (0x80000000#32).extractLsb' 0 8 = 0#8 ∧
    [0xBF800000#32, 0x3F7FFFFE#32, 0x3F7FFFFF#32].all (fun b => !isNaN b && !isInf b) = true ∧
    -2 ^ 149 ≤ floatVal 0xBF800000#32 ∧ floatVal 0x3F7FFFFE#32 < 2 ^ 149 - 2 ^ 125 ∧
    2 ^ 149 - 2 ^ 125 ≤ floatVal 0x3F7FFFFF#32 ∧ floatVal 0x3F7FFFFF#32 < 2 ^ 149 := by decide

end Sys2Proof.Tests
end

section
/-! Proofs about the address map and the accesses that no register or window answers (spec/20_memory.md R71, R72). -/

namespace Sys2Proof

/-! ### The offsets that no register or window has -/

/-- The four unmapped ranges of R72. -/
abbrev UnmappedOffset (n : Nat) : Prop :=
  0x014 ≤ n ∧ n ≤ 0x01C ∨ 0x064 ≤ n ∧ n ≤ 0x06C ∨ 0x080 ≤ n ∧ n ≤ 0x0FFFF ∨ 0x50000 ≤ n ∧ n ≤ 0xFFFFF

/-- The offsets of the registers, the same for reads and writes (spec/10_state.md R20). -/
def registerOffsets : List (BitVec 16) := readableRegisters.map Prod.fst

theorem writableRegisters_offsets : writableRegisters.map Prod.fst = registerOffsets := rfl

/-- A table has no entry at an offset exactly where the offset is not one of its own. -/
theorem lookup_eq_none_iff_notMem {α : Type} (table : List (BitVec 16 × α)) (off : BitVec 16) :
    table.lookup off = none ↔ off ∉ table.map Prod.fst := by
  simp only [List.lookup_eq_none_iff, bne_iff_ne, List.mem_map, not_exists, not_and]
  exact ⟨fun h p hp he => h p hp he.symm, fun h p hp he => h p hp he.symm⟩

/-- The registers lie below 0x80 (spec/10_state.md R20). -/
theorem registerOffsets_lt {off : BitVec 16} (hmem : off ∈ registerOffsets) : off.toNat < 0x80 :=
  have hall : registerOffsets.all (fun o => o.toNat < 0x80) = true := by decide
  of_decide_eq_true (List.all_eq_true.mp hall off hmem)

/-- Among the 32 words below 0x80 the registers leave out the first two unmapped ranges. -/
theorem registerOffsets_below_0x80 :
    ∀ k < 32, BitVec.ofNat 16 (4 * k) ∉ registerOffsets ↔ UnmappedOffset (4 * k) := by decide

/-- In the register window the aligned offsets without a register are the first three unmapped ranges. -/
theorem notMem_registerOffsets_iff {off : BitVec 16} (ha : off.toNat % 4 = 0) :
    off ∉ registerOffsets ↔ UnmappedOffset off.toNat := by
  by_cases hlt : off.toNat < 0x80
  · have hoff : 4 * (off.toNat / 4) = off.toNat := by omega
    have := registerOffsets_below_0x80 (off.toNat / 4) (by omega)
    rwa [hoff, BitVec.ofNat_toNat, BitVec.setWidth_eq] at this
  · have hout : off ∉ registerOffsets := fun hmem => hlt (registerOffsets_lt hmem)
    have := off.isLt
    simp only [hout, not_false_eq_true, true_iff]
    omega

/-! ### The decoder of aligned word accesses -/

/-- A read decodes to nothing at an offset of window 0 that is no register's, and in the windows from 5 on (R108). -/
theorem decodeRead_eq_none_iff (key : BitVec 21) :
    decodeRead key = none ↔
      key.extractLsb' 16 4 = 0#4 ∧ key.extractLsb' 0 16 ∉ registerOffsets ∨ 5#4 ≤ key.extractLsb' 16 4 := by
  simp only [decodeRead]
  generalize key.extractLsb' 16 4 = window
  split_ifs with h0 h1 h2 h3 h4
  · rw [lookup_eq_none_iff_notMem, ← registerOffsets]
    simp [h0]
  · simp [h1]
  · simp [h2]
  · simp [h3]
  · simp [h4]
  · have : 5#4 ≤ window := by bv_omega
    simp [this]

/-- Reads and writes reach the same offsets. -/
theorem decodeWrite_eq_none_iff (key : BitVec 21) (v : Word) :
    decodeWrite key v = none ↔ decodeRead key = none := by
  simp only [decodeWrite, decodeRead]
  split_ifs
  · rw [Option.map_eq_none_iff, lookup_eq_none_iff_notMem, lookup_eq_none_iff_notMem,
      writableRegisters_offsets, registerOffsets]
  all_goals simp

/-- At an aligned offset nothing is decoded exactly in the unmapped ranges. -/
theorem decodeRead_eq_none_iff_unmapped {key : BitVec 21} (ha : key.extractLsb' 0 2 = 0#2) :
    decodeRead key = none ↔ UnmappedOffset (key.extractLsb' 0 20).toNat := by
  have hlow : key.toNat % 4 = 0 := by simpa using congrArg BitVec.toNat ha
  have hoff : (key.extractLsb' 0 16).toNat = key.toNat % 2 ^ 16 := by simp
  rw [decodeRead_eq_none_iff, notMem_registerOffsets_iff (by omega), hoff]
  simp only [← BitVec.toNat_inj, BitVec.le_def, BitVec.extractLsb'_toNat, BitVec.toNat_ofNat,
    Nat.shiftRight_eq_div_pow]
  omega

/-- An aligned key decodes to an instruction, or lies in an unmapped range. -/
theorem decodeKey_aligned_cases {key : BitVec 21} (v : Word) (ha : key.extractLsb' 0 2 = 0#2) :
    (UnmappedOffset (key.extractLsb' 0 20).toNat ∧ decodeKey key v = .error .unmapped) ∨
    (¬ UnmappedOffset (key.extractLsb' 0 20).toNat ∧ ∃ i, decodeKey key v = .ok i) := by
  have hnone : (if key.getLsbD 20 then decodeWrite key v else decodeRead key) = none ↔
      UnmappedOffset (key.extractLsb' 0 20).toNat := by
    split_ifs
    · rw [decodeWrite_eq_none_iff, decodeRead_eq_none_iff_unmapped ha]
    · exact decodeRead_eq_none_iff_unmapped ha
  rw [← hnone]
  simp only [decodeKey, if_pos ha]
  cases (if key.getLsbD 20 then decodeWrite key v else decodeRead key) with
  | none => exact .inl ⟨rfl, rfl⟩
  | some i => exact .inr ⟨nofun, i, rfl⟩

/-- The low bits of a key are those of the offset (R104). -/
theorem keyOf_extractLsb'_low (write : Bool) (addr : BitVec 20) (n : Nat) (hn : n ≤ 20) :
    (keyOf write addr).extractLsb' 0 n = addr.extractLsb' 0 n := by
  ext k hk
  rw [BitVec.getElem_extractLsb', BitVec.getElem_extractLsb', keyOf, BitVec.getLsbD_append, Nat.zero_add,
    if_pos (by omega)]

/-- An access that is not an aligned word is misaligned (R71). -/
theorem decodeAccess_misaligned {acc : Access} (h : acc.size ≠ 2#2 ∨ acc.addr.extractLsb' 0 2 ≠ 0#2) :
    decodeAccess acc = .error .misaligned := by
  by_cases hs : acc.size = 2#2
  · have ha := h.resolve_left (not_not_intro hs)
    rw [← keyOf_extractLsb'_low acc.write acc.addr 2 (by decide)] at ha
    simp only [decodeAccess, if_pos hs, decodeKey, if_neg ha]
  · exact if_neg hs

/-- An aligned word access decodes to an instruction, or its offset lies in an unmapped range (R72). -/
theorem decodeAccess_aligned_cases {acc : Access} (hs : acc.size = 2#2) (ha : acc.addr.extractLsb' 0 2 = 0#2) :
    (UnmappedOffset acc.addr.toNat ∧ decodeAccess acc = .error .unmapped) ∨
    (¬ UnmappedOffset acc.addr.toNat ∧ ∃ i, decodeAccess acc = .ok i) := by
  have haddr : (keyOf acc.write acc.addr).extractLsb' 0 20 = acc.addr := by
    rw [keyOf_extractLsb'_low _ _ _ le_rfl, BitVec.extractLsb'_eq_self]
  have hkey := decodeKey_aligned_cases acc.wdata
    ((keyOf_extractLsb'_low acc.write acc.addr 2 (by decide)).trans ha)
  rw [haddr] at hkey
  simpa only [decodeAccess, if_pos hs] using hkey

end Sys2Proof

namespace Sys2Proof.Machine

/-! ### What an access that does not decode leaves -/

/-- A read that decodes to nothing answers 0 and records the one error. -/
theorem undecodedAccess_read {acc : Access} (c : ErrCause) (s : State) (hw : acc.write = false) :
    undecodedAccess c acc s = .next (recorded (BitVec.twoPow 10 (errBit c)) 0#32 s) := by
  simp [undecodedAccess, hw, raiseError_respondRead]

/-- A write that decodes to nothing records the one error. -/
theorem undecodedAccess_write {acc : Access} (c : ErrCause) (s : State) (hw : acc.write = true) :
    undecodedAccess c acc s =
      .next (recorded (BitVec.twoPow 10 (errBit c)) (Config.freeBusRdata s.cycle) s) := by
  simp [undecodedAccess, hw, raiseError_respondWrite]

/-- A misaligned access raises BUS_ALIGN and is not performed (R71). -/
theorem hostAccess_misaligned {acc : Access} (s : State) (h : decodeAccess acc = .error .misaligned) :
    hostAccess acc s = undecodedAccess .busAlign acc s := by
  simp [hostAccess, h]

/-- An unmapped access raises BUS_UNMAPPED and is not performed (R72). -/
theorem hostAccess_unmapped {acc : Access} (s : State) (h : decodeAccess acc = .error .unmapped) :
    hostAccess acc s = undecodedAccess .busUnmapped acc s := by
  simp [hostAccess, h]

/-- Settles O5: such an access decodes to no instruction. -/
theorem misalignedAccessRaisesBusAlign : Obligations.MisalignedAccessRaisesBusAlign := by
  intro acc s h
  rw [hostAccess_misaligned s (decodeAccess_misaligned h)]
  exact ⟨fun hw => undecodedAccess_read .busAlign s hw, fun hw => ⟨_, undecodedAccess_write .busAlign s hw⟩⟩

/-- Settles O6, by the two ways an aligned word access can decode. -/
theorem unmappedOffsetsRaiseBusUnmapped : Obligations.UnmappedOffsetsRaiseBusUnmapped := by
  intro acc s hs ha
  obtain ⟨hu, hd⟩ | ⟨hm, i, hd⟩ := decodeAccess_aligned_cases hs ha
  · refine ⟨fun _ => ?_, fun hm => absurd hu hm⟩
    rw [hostAccess_unmapped s hd]
    exact ⟨fun hw => undecodedAccess_read .busUnmapped s hw,
      fun hw => ⟨_, undecodedAccess_write .busUnmapped s hw⟩⟩
  · exact ⟨fun hu => absurd hu hm, fun _ => ⟨i, hd, hostAccess_ok s hd⟩⟩

end Sys2Proof.Machine
end

section
/-! Proofs about the command words and their decoder (spec/30_encoding.md R101, R106, R109). -/

namespace Sys2Proof

/-- The six legal command words of R106, as the obligations list them. -/
abbrev legalCommandWords : List Word :=
  [0x00000000#32, 0x00000001#32, 0x00000002#32, 0x00000102#32, 0x00000003#32, 0x00000004#32]

/-- The command word with the given ARG and OP and every reserved bit 0 (R101). -/
def commandWord (arg : Bool) (op : BitVec 4) : Word := 0#23 ++ BitVec.ofBool arg ++ 0#4 ++ op

/-- OP is at bits 3 to 0 and ARG at bit 8 (R101). -/
theorem commandWord_getLsbD (arg : Bool) (op : BitVec 4) (k : Nat) :
    (commandWord arg op).getLsbD k = if k < 4 then op.getLsbD k else decide (k = 8) && arg := by
  unfold commandWord
  rw [BitVec.getLsbD_append, BitVec.getLsbD_append, BitVec.getLsbD_append]
  by_cases hop : k < 4
  · simp [hop]
  · have harg : k = 8 ↔ 4 ≤ k - 4 ∧ k - 4 - 4 = 0 := by omega
    simp [hop, harg, ← decide_not, Bool.and_assoc]

/-- The mask of R106 has a one at every bit that is neither in OP nor ARG. -/
theorem reservedMask_getLsbD :
    ∀ k < 32, ¬ k < 4 → k ≠ 8 → (0xFFFFFEF0#32).getLsbD k = true := by decide

/-- A word whose reserved bits are 0 is the command word of its own ARG and OP. -/
theorem eq_commandWord_of_reserved_zero {w : Word} (hres : w &&& 0xFFFFFEF0#32 = 0#32) :
    w = commandWord (w.getLsbD 8) (w.extractLsb' 0 4) := by
  refine BitVec.eq_of_getLsbD_eq fun k hk => ?_
  rw [commandWord_getLsbD]
  by_cases hop : k < 4
  · simp [hop]
  · by_cases harg : k = 8
    · simp [harg]
    · have hzero : w.getLsbD k = false := by
        have := congrArg (·.getLsbD k) hres
        simpa [reservedMask_getLsbD k hk hop harg] using this
      simp [hop, harg, hzero]

/-- With the reserved bits 0, a word is legal by its OP and ARG alone (R106, R109). -/
theorem commandWord_mem_legal_iff :
    ∀ (arg : Bool) (op : BitVec 4),
      commandWord arg op ∈ legalCommandWords ↔ op.toNat ≤ 4 ∧ (arg = false ∨ op = 2#4) := by decide

/-- The six legal words have their reserved bits 0. -/
theorem reserved_zero_of_mem_legal :
    ∀ w ∈ legalCommandWords, w &&& 0xFFFFFEF0#32 = 0#32 := by
  intro w hmem
  fin_cases hmem <;> rfl

/-- The decoder's formula of R106 names the six words. -/
theorem mem_legalCommandWords_iff (w : Word) :
    w ∈ legalCommandWords ↔
      w &&& 0xFFFFFEF0#32 = 0#32 ∧ (w.extractLsb' 0 4).toNat ≤ 4 ∧
        (w.getLsbD 8 = false ∨ w.extractLsb' 0 4 = 2#4) := by
  rw [← commandWord_mem_legal_iff]
  constructor
  · intro hmem
    have hres := reserved_zero_of_mem_legal w hmem
    exact ⟨hres, eq_commandWord_of_reserved_zero hres ▸ hmem⟩
  · rintro ⟨hres, hmem⟩
    rwa [eq_commandWord_of_reserved_zero hres]

/-- Each of the six words decodes to a command. -/
theorem decodeCommand_legal {w : Word} (h : w ∈ legalCommandWords) : ∃ c, decodeCommand w = .ok c := by
  fin_cases h <;> exact ⟨_, rfl⟩

/-- Every word but the six is illegal (R109). -/
theorem decodeCommand_illegal {w : Word} (h : w ∉ legalCommandWords) :
    decodeCommand w = .error .illegalCommand := by
  simp only [List.mem_cons, List.not_mem_nil, or_false, not_or] at h
  simp [decodeCommand, h]

/-- The decoder accepts exactly the six words. -/
theorem decodeCommand_ok_iff_mem_legal (w : Word) :
    (∃ c, decodeCommand w = .ok c) ↔ w ∈ legalCommandWords := by
  refine ⟨fun ⟨c, hc⟩ => ?_, decodeCommand_legal⟩
  by_contra hout
  rw [decodeCommand_illegal hout] at hc
  cases hc

end Sys2Proof

namespace Sys2Proof.Machine

/-- Settles O2: the decoder accepts the six words, and R106's formula describes them by their fields. -/
theorem commandWordsAreTheSixLegalOnes : Obligations.CommandWordsAreTheSixLegalOnes := by
  refine ⟨by decide, fun w => decodeCommand_illegal, fun w => ?_⟩
  rw [decodeCommand_ok_iff_mem_legal, mem_legalCommandWords_iff]

end Sys2Proof.Machine
end

section
/-! Proofs about the Sample Converter (spec/40_converter.md R131-R143): the fields of a binary32 pattern, rne32 and its significand, and
then toFloat and toFixed. Values are in units of 2^-149, as `floatVal` gives them. -/

namespace Sys2Proof.Machine

/-! ### The fields of a pattern (R10) -/

theorem floatExp_eq (b : Word) : floatExp b = b.toNat / 2 ^ 23 % 2 ^ 8 := by
  simp [floatExp, Nat.shiftRight_eq_div_pow]

theorem floatFrac_eq (b : Word) : floatFrac b = b.toNat % 2 ^ 23 := by
  simp [floatFrac]

theorem getLsbD_31_eq (b : Word) : b.getLsbD 31 = decide (2 ^ 31 ≤ b.toNat) := BitVec.msb_eq_decide b

theorem floatFrac_lt (b : Word) : floatFrac b < 2 ^ 23 := (b.extractLsb' 0 23).isLt

theorem floatVal_natAbs (b : Word) : (floatVal b).natAbs = floatMag b := by
  unfold floatVal
  split <;> simp

/-- A pattern of exponent 0 is a zero or a subnormal. -/
theorem floatMag_of_floatExp_zero {b : Word} (h : floatExp b = 0) : floatMag b = floatFrac b := if_pos h

theorem floatMag_of_floatExp_ne_zero {b : Word} (h : floatExp b ≠ 0) :
    floatMag b = (2 ^ 23 + floatFrac b) * 2 ^ (floatExp b - 1) := if_neg h

/-- A magnitude is a significand of at most 24 bits, scaled. -/
theorem floatMag_eq_scaled (b : Word) : ∃ t e, t < 2 ^ 24 ∧ floatMag b = t * 2 ^ e := by
  have hf := floatFrac_lt b
  by_cases h : floatExp b = 0
  · exact ⟨floatFrac b, 0, by omega, by rw [floatMag_of_floatExp_zero h, pow_zero, mul_one]⟩
  · exact ⟨2 ^ 23 + floatFrac b, floatExp b - 1, by omega, floatMag_of_floatExp_ne_zero h⟩

/-- The patterns of magnitude at least 2^(k+23) lie on the grid of 2^k. -/
theorem floatMag_grid {b : Word} {k : Nat} (h : 2 ^ (k + 23) ≤ floatMag b) : 2 ^ k ∣ floatMag b := by
  obtain ⟨t, e, ht, hm⟩ := floatMag_eq_scaled b
  have hlt : 2 ^ (k + 23) < 2 ^ (24 + e) := by
    calc 2 ^ (k + 23) ≤ t * 2 ^ e := hm ▸ h
      _ < 2 ^ 24 * 2 ^ e := Nat.mul_lt_mul_of_pos_right ht (by positivity)
      _ = 2 ^ (24 + e) := (pow_add ..).symm
  have hle : k ≤ e := by
    have := (Nat.pow_lt_pow_iff_right (by decide)).mp hlt
    omega
  exact hm ▸ (pow_dvd_pow 2 hle).mul_left t

/-- A magnitude of at most 1 has an exponent field of at most 127: it is no infinity and no NaN. -/
theorem floatExp_le_of_floatMag_le {b : Word} (h : floatMag b ≤ 2 ^ 149) : floatExp b ≤ 127 := by
  by_contra hgt
  rw [floatMag_of_floatExp_ne_zero (by omega)] at h
  have hpow : 2 ^ 127 ≤ 2 ^ (floatExp b - 1) := Nat.pow_le_pow_right (by decide) (by omega)
  have hmul : 2 ^ 23 * 2 ^ 127 ≤ (2 ^ 23 + floatFrac b) * 2 ^ (floatExp b - 1) :=
    Nat.mul_le_mul (by omega) hpow
  omega

theorem isNaN_eq_false {b : Word} (h : floatExp b < 255) : isNaN b = false := by
  simp [isNaN, show floatExp b ≠ 255 by omega]

theorem isInf_eq_false {b : Word} (h : floatExp b < 255) : isInf b = false := by
  simp [isInf, show floatExp b ≠ 255 by omega]

/-! ### Rounding to an integer -/

theorem roundEven_bounds (m k : Nat) : m / 2 ^ k ≤ roundEven m k ∧ roundEven m k ≤ m / 2 ^ k + 1 := by
  simp only [roundEven]
  split <;> omega

/-- A common power of two cancels. -/
theorem roundEven_mul_pow (m k j : Nat) : roundEven (m * 2 ^ j) (k + j) = roundEven m k := by
  have hj : 0 < 2 ^ j := by positivity
  have hgt : 2 * (m % 2 ^ k * 2 ^ j) > 2 ^ k * 2 ^ j ↔ 2 * (m % 2 ^ k) > 2 ^ k := by
    rw [← mul_assoc, gt_iff_lt, Nat.mul_lt_mul_right hj]
  have heq : 2 * (m % 2 ^ k * 2 ^ j) = 2 ^ k * 2 ^ j ↔ 2 * (m % 2 ^ k) = 2 ^ k := by
    rw [← mul_assoc, Nat.mul_left_inj hj.ne']
  simp only [roundEven, pow_add, Nat.mul_div_mul_right _ _ hj, Nat.mul_mod_mul_right, hgt, heq]

/-- A whole number needs no rounding. -/
theorem roundEven_of_dvd {m k : Nat} (h : 2 ^ k ∣ m) : roundEven m k * 2 ^ k = m := by
  have hk : 0 < 2 ^ k := by positivity
  simp [roundEven, Nat.mod_eq_zero_of_dvd h, hk.ne, Nat.div_mul_cancel h]

/-! ### The significand that rne32 gives a magnitude -/

/-- m / 2^(log2 m - 23), rounded: the significand of m, from 2^23 to 2^24 inclusive. -/
def significand (m : Nat) : Nat := roundEven (m * 2 ^ 23) m.log2

/-- m is a significand of at most 24 bits, scaled: binary32 holds it exactly. -/
def FitsSignificand (m : Nat) : Prop := 2 ^ m.log2 ∣ m * 2 ^ 23

theorem log2_mul_two_pow {m : Nat} (hm : m ≠ 0) (j : Nat) : (m * 2 ^ j).log2 = m.log2 + j := by
  have hj : 0 < 2 ^ j := by positivity
  rw [Nat.log2_eq_iff (by positivity), add_right_comm, pow_add, pow_add _ _ j]
  exact ⟨Nat.mul_le_mul_right _ (Nat.log2_self_le hm), Nat.mul_lt_mul_of_pos_right Nat.lt_log2_self hj⟩

theorem log2_le_of_le_two_pow {m n : Nat} (h : m ≤ 2 ^ n) : m.log2 ≤ n := by
  by_cases h0 : m = 0
  · rw [h0]
    exact Nat.zero_le n
  · refine Nat.le_of_lt_succ ((Nat.log2_lt h0).mpr (h.trans_lt ?_))
    exact Nat.pow_lt_pow_right (by decide) n.lt_succ_self

theorem significand_bounds {m : Nat} (hm : m ≠ 0) : 2 ^ 23 ≤ significand m ∧ significand m ≤ 2 ^ 24 := by
  obtain ⟨hlo, hhi⟩ := roundEven_bounds (m * 2 ^ 23) m.log2
  have hpos : 0 < 2 ^ m.log2 := by positivity
  constructor
  · refine le_trans ((Nat.le_div_iff_mul_le hpos).mpr ?_) hlo
    exact mul_comm m (2 ^ 23) ▸ Nat.mul_le_mul_left _ (Nat.log2_self_le hm)
  · refine le_trans hhi (Nat.div_lt_of_lt_mul ?_)
    calc m * 2 ^ 23 < 2 ^ (m.log2 + 1) * 2 ^ 23 := Nat.mul_lt_mul_of_pos_right Nat.lt_log2_self (by decide)
      _ = 2 ^ m.log2 * 2 ^ 24 := by ring

theorem significand_of_fits {m : Nat} (h : FitsSignificand m) : significand m * 2 ^ m.log2 = m * 2 ^ 23 :=
  roundEven_of_dvd h

theorem fits_scaled {t : Nat} (ht : t < 2 ^ 24) (e : Nat) : FitsSignificand (t * 2 ^ e) := by
  unfold FitsSignificand
  by_cases h0 : t = 0
  · simp [h0]
  · have hl : t.log2 ≤ 23 := Nat.le_of_lt_succ ((Nat.log2_lt h0).mpr ht)
    rw [log2_mul_two_pow h0, pow_add, mul_right_comm]
    exact Nat.mul_dvd_mul_right ((pow_dvd_pow 2 hl).mul_left t) _

/-- The magnitude of a pattern needs no rounding. -/
theorem fits_floatMag (b : Word) : FitsSignificand (floatMag b) := by
  obtain ⟨t, e, ht, hm⟩ := floatMag_eq_scaled b
  exact hm ▸ fits_scaled ht e

/-! ### rne32 -/

@[simp] theorem rne32_zero (k : Nat) : rne32 0 k = 0#32 := rfl

/-- In the range of the normal values rne32 packs the exponent and the significand; a significand of 2^24 carries. -/
theorem rne32Mag_eq {m k : Nat} (hm : m ≠ 0) (hlo : k ≤ m.log2 + 126) (hhi : m.log2 ≤ k + 127) :
    rne32Mag m k = (m.log2 + 126 - k) * 2 ^ 23 + significand m := by
  obtain ⟨-, hsig⟩ := significand_bounds hm
  have hmax : max ((m.log2 : Int) - k) (-126) = (m.log2 : Int) - k := by omega
  have hexp : ((m.log2 : Int) - k + 126).toNat = m.log2 + 126 - k := by omega
  have hshift : (k : Int) + ((m.log2 : Int) - k - 23) = (m.log2 : Int) - 23 := by omega
  have hround : (if (m.log2 : Int) - 23 ≤ 0 then m * 2 ^ (-((m.log2 : Int) - 23)).toNat
      else roundEven m ((m.log2 : Int) - 23).toNat) = significand m := by
    split_ifs with h
    · have hneg : (-((m.log2 : Int) - 23)).toNat = 23 - m.log2 := by omega
      have hmul : m * 2 ^ 23 = m * 2 ^ (23 - m.log2) * 2 ^ m.log2 := by
        rw [mul_assoc, ← pow_add, Nat.sub_add_cancel (by omega)]
      have hfit : FitsSignificand m := by
        rw [FitsSignificand, hmul]
        exact Nat.dvd_mul_left _ _
      rw [hneg, ← Nat.mul_left_inj (a := 2 ^ m.log2) (by positivity), ← hmul, significand_of_fits hfit]
    · have hpos : ((m.log2 : Int) - 23).toNat = m.log2 - 23 := by omega
      rw [hpos, ← roundEven_mul_pow m _ 23, Nat.sub_add_cancel (by omega), significand]
  simp only [rne32Mag, if_neg hm, hmax, hexp, hshift, hround]
  omega

/-- The value of a pattern put together from a sign, an exponent and a significand of 2^23 to 2^24. -/
theorem floatVal_pattern {v : Int} {e t : Nat} (hv : v ≠ 0) (he : e ≤ 253) (htlo : 2 ^ 23 ≤ t) (hthi : t ≤ 2 ^ 24) :
    floatVal (BitVec.ofNat 32 ((if v < 0 then 2 ^ 31 else 0) + (e * 2 ^ 23 + t))) = v.sign * (t * 2 ^ e : Nat) := by
  generalize hb : BitVec.ofNat 32 ((if v < 0 then 2 ^ 31 else 0) + (e * 2 ^ 23 + t)) = b
  have hn : b.toNat = (if v < 0 then 2 ^ 31 else 0) + (e * 2 ^ 23 + t) := by
    rw [← hb, BitVec.toNat_ofNat]
    split <;> omega
  have hlow : b.toNat % 2 ^ 31 = e * 2 ^ 23 + t := by
    rw [hn]
    split <;> omega
  have hmag : floatMag b = t * 2 ^ e := by
    by_cases htop : t = 2 ^ 24
    · have hexp : floatExp b = e + 1 + 1 := by rw [floatExp_eq]; omega
      have hfrac : floatFrac b = 0 := by rw [floatFrac_eq]; omega
      rw [floatMag_of_floatExp_ne_zero (by omega), hexp, hfrac, htop, Nat.add_sub_cancel]
      ring
    · have hexp : floatExp b = e + 1 := by rw [floatExp_eq]; omega
      have hfrac : 2 ^ 23 + floatFrac b = t := by rw [floatFrac_eq]; omega
      rw [floatMag_of_floatExp_ne_zero (by omega), hexp, hfrac, Nat.add_sub_cancel]
  rw [floatVal, getLsbD_31_eq, hmag, hn]
  obtain hneg | hpos := hv.lt_or_gt
  · simp [hneg, Int.sign_eq_neg_one_of_neg hneg]
  · rw [if_neg hpos.not_gt, if_neg (by simp; omega), Int.sign_eq_one_of_pos hpos, one_mul]

/-- The value of rne32 in the range of the normal values: sign, significand and exponent of the argument. -/
theorem floatVal_rne32 {v : Int} {k : Nat} (hv : v ≠ 0) (hlo : k ≤ v.natAbs.log2 + 126)
    (hhi : v.natAbs.log2 ≤ k + 127) :
    floatVal (rne32 v k) = v.sign * (significand v.natAbs * 2 ^ (v.natAbs.log2 + 126 - k) : Nat) := by
  have hm := Int.natAbs_ne_zero.mpr hv
  obtain ⟨hslo, hshi⟩ := significand_bounds hm
  rw [rne32, rne32Mag_eq hm hlo hhi, floatVal_pattern hv (by omega) hslo hshi]

/-- rne32 of v / 2^k is exact where the magnitude of v fits the significand and v / 2^k the normal values. -/
theorem floatVal_rne32_exact {v : Int} {k : Nat} (hfit : FitsSignificand v.natAbs)
    (hlo : v ≠ 0 → k ≤ v.natAbs.log2 + 126) (hhi : v.natAbs.log2 ≤ k + 127) :
    floatVal (rne32 v k) * 2 ^ k = v * 2 ^ 149 := by
  by_cases hv : v = 0
  · simp [hv, floatVal, floatMag, floatExp, floatFrac]
  · have hmag : significand v.natAbs * 2 ^ (v.natAbs.log2 + 126 - k) * 2 ^ k = v.natAbs * 2 ^ 149 := by
      calc significand v.natAbs * 2 ^ (v.natAbs.log2 + 126 - k) * 2 ^ k
          = significand v.natAbs * 2 ^ (v.natAbs.log2 + 126) := by
            rw [mul_assoc, ← pow_add, Nat.sub_add_cancel (hlo hv)]
        _ = significand v.natAbs * 2 ^ v.natAbs.log2 * 2 ^ 126 := by rw [pow_add, mul_assoc]
        _ = v.natAbs * 2 ^ 149 := by rw [significand_of_fits hfit]; ring
    calc floatVal (rne32 v k) * 2 ^ k
        = v.sign * (significand v.natAbs * 2 ^ (v.natAbs.log2 + 126 - k) * 2 ^ k : Nat) := by
          rw [floatVal_rne32 hv (hlo hv) hhi]; push_cast; ring
      _ = v.sign * v.natAbs * 2 ^ 149 := by rw [hmag]; push_cast; ring
      _ = v * 2 ^ 149 := by rw [Int.sign_mul_natAbs]

/-! ### The first rounding of toFloat: rne32 of a 32-bit integer -/

theorem natAbs_toInt_le (w : Word) : w.toInt.natAbs ≤ 2 ^ 31 := by
  have := w.toInt_lt
  have := w.le_toInt
  omega

/-- An integer of at most 24 significant bits is not rounded. -/
theorem floatVal_rne32_int_exact {x : Int} (hx : x.natAbs ≤ 2 ^ 31) (hfit : FitsSignificand x.natAbs) :
    floatVal (rne32 x 0) = x * 2 ^ 149 := by
  have hlog := log2_le_of_le_two_pow hx
  simpa using floatVal_rne32_exact hfit (fun _ => Nat.zero_le _) (by omega)

/-- The value of a rounded integer. -/
theorem floatVal_rne32_int {x : Int} (hx : x.natAbs ≤ 2 ^ 31) (h0 : x ≠ 0) :
    floatVal (rne32 x 0) = x.sign * (significand x.natAbs * 2 ^ (x.natAbs.log2 + 126) : Nat) := by
  have hlog := log2_le_of_le_two_pow hx
  exact floatVal_rne32 h0 (Nat.zero_le _) (by omega)

/-- Rounding does not make a negative integer positive. -/
theorem floatVal_rne32_int_nonpos {x : Int} (hx : x.natAbs ≤ 2 ^ 31) (h : x ≤ 0) : floatVal (rne32 x 0) ≤ 0 := by
  obtain rfl | hneg := h.eq_or_lt
  · decide
  · rw [floatVal_rne32_int hx hneg.ne, Int.sign_eq_neg_one_of_neg hneg]
    omega

/-- The magnitude of a rounded integer. -/
theorem floatMag_rne32_int {x : Int} (hx : x.natAbs ≤ 2 ^ 31) (h0 : x ≠ 0) :
    floatMag (rne32 x 0) = significand x.natAbs * 2 ^ (x.natAbs.log2 + 126) := by
  rw [← floatVal_natAbs, floatVal_rne32_int hx h0, Int.natAbs_mul, Int.natAbs_sign_of_ne_zero h0, one_mul,
    Int.natAbs_natCast]

/-- A rounded integer other than 0 has magnitude at least 1. -/
theorem one_le_floatMag_rne32_int {x : Int} (hx : x.natAbs ≤ 2 ^ 31) (h0 : x ≠ 0) :
    2 ^ 149 ≤ floatMag (rne32 x 0) := by
  obtain ⟨hlo, -⟩ := significand_bounds (Int.natAbs_ne_zero.mpr h0)
  have hexp : 2 ^ 126 ≤ 2 ^ (x.natAbs.log2 + 126) := Nat.pow_le_pow_right (by decide) (by omega)
  rw [floatMag_rne32_int hx h0]
  calc 2 ^ 149 = 2 ^ 23 * 2 ^ 126 := by omega
    _ ≤ _ := Nat.mul_le_mul hlo hexp

/-- Rounding does not carry an integer over the next power of two. -/
theorem floatMag_rne32_int_le {x : Int} {l : Nat} (hx : x.natAbs ≤ 2 ^ 31) (hl : x.natAbs < 2 ^ l) :
    floatMag (rne32 x 0) ≤ 2 ^ (l + 149) := by
  by_cases h0 : x = 0
  · subst h0
    exact Nat.zero_le _
  · have hm := Int.natAbs_ne_zero.mpr h0
    obtain ⟨-, hhi⟩ := significand_bounds hm
    have hlog := (Nat.log2_lt hm).mpr hl
    rw [floatMag_rne32_int hx h0]
    calc _ ≤ 2 ^ 24 * 2 ^ (x.natAbs.log2 + 126) := Nat.mul_le_mul_right _ hhi
      _ = 2 ^ (x.natAbs.log2 + 150) := by ring
      _ ≤ 2 ^ (l + 149) := Nat.pow_le_pow_right (by decide) (by omega)

/-- A rounded word has magnitude at most 2^31. -/
theorem floatMag_rne32_word_le (w : Word) : floatMag (rne32 w.toInt 0) ≤ 2 ^ 180 := by
  have hx := natAbs_toInt_le w
  obtain hlt | htop := hx.lt_or_eq
  · exact floatMag_rne32_int_le hx hlt
  · have hexact := floatVal_rne32_int_exact hx (htop ▸ fits_scaled (t := 1) (by decide) 31)
    rw [← floatVal_natAbs, hexact]
    omega

/-- From 2^30 up to 2^31 the significand counts units of 128; it is 2^24 from 2^31 - 64 up (R133). -/
theorem significand_eq_two_pow_24_iff {m : Nat} (hlo : 2 ^ 30 ≤ m) (hhi : m < 2 ^ 31) :
    significand m = 2 ^ 24 ↔ 2 ^ 31 - 64 ≤ m := by
  have hl : m.log2 = 30 := (Nat.log2_eq_iff (by omega)).mpr ⟨hlo, hhi⟩
  rw [significand, hl, roundEven_mul_pow m 7 23]
  simp only [roundEven, Bool.or_eq_true, Bool.and_eq_true, decide_eq_true_eq]
  split_ifs <;> omega

/-- The integers from 2^31 - 64 up round to 2^31. -/
theorem rne32_int_of_clamped {x : Int} (h : 2 ^ 31 - 64 ≤ x) (hhi : x < 2 ^ 31) : rne32 x 0 = 0x4F000000#32 := by
  have hl : x.natAbs.log2 = 30 := (Nat.log2_eq_iff (by omega)).mpr (by omega)
  have hsig := (significand_eq_two_pow_24_iff (m := x.natAbs) (by omega) (by omega)).mpr (by omega)
  rw [rne32, if_neg (by omega), rne32Mag_eq (by omega) (Nat.zero_le _) (by omega), hl, hsig]
  rfl

/-- The smaller integers round to less than 2^31. -/
theorem floatVal_rne32_int_lt {x : Int} (hlo : -2 ^ 31 ≤ x) (h : x < 2 ^ 31 - 64) : floatVal (rne32 x 0) < 2 ^ 180 := by
  have hx : x.natAbs ≤ 2 ^ 31 := by omega
  have hval := floatVal_natAbs (rne32 x 0)
  obtain hnonpos | hpos := le_or_gt x 0
  · have := floatVal_rne32_int_nonpos hx hnonpos
    omega
  · obtain hsmall | hbig := lt_or_ge x.natAbs (2 ^ 30)
    · have := floatMag_rne32_int_le hx hsmall
      omega
    · have hl : x.natAbs.log2 = 30 := (Nat.log2_eq_iff (by omega)).mpr (by omega)
      obtain ⟨-, hle⟩ := significand_bounds (m := x.natAbs) (by omega)
      have hne := (significand_eq_two_pow_24_iff (m := x.natAbs) hbig (by omega)).not.mpr (by omega)
      have hmag := floatMag_rne32_int hx hpos.ne'
      rw [hl] at hmag
      omega

/-- The clamped integers: those whose rounding is not less than 2^31. -/
theorem two_pow_31_le_rne32_int_iff {x : Int} (hlo : -2 ^ 31 ≤ x) (hhi : x < 2 ^ 31) :
    2 ^ 180 ≤ floatVal (rne32 x 0) ↔ 2 ^ 31 - 64 ≤ x := by
  refine ⟨fun hval => ?_, fun h => ?_⟩
  · by_contra hlt
    exact absurd (floatVal_rne32_int_lt hlo (by omega)) (by omega)
  · rw [rne32_int_of_clamped h hhi]
    decide

/-- The integers that round to 2^31 itself. -/
theorem rne32_int_eq_two_pow_31_iff {x : Int} (hlo : -2 ^ 31 ≤ x) (hhi : x < 2 ^ 31) :
    rne32 x 0 = 0x4F000000#32 ↔ 2 ^ 31 - 64 ≤ x := by
  refine ⟨fun heq => ?_, fun h => rne32_int_of_clamped h hhi⟩
  rw [← two_pow_31_le_rne32_int_iff hlo hhi, heq]
  decide

/-! ### toFloat -/

theorem toFloat_of_clamped {w : Word} (h : 2 ^ 180 ≤ floatVal (rne32 w.toInt 0)) : toFloat w = 0x3F7FFFFF#32 :=
  if_pos h

/-- Without the clamp, the division by 2^31 is exact: the second rounding changes nothing. -/
theorem floatVal_toFloat_of_not_clamped {w : Word} (h : floatVal (rne32 w.toInt 0) < 2 ^ 180) :
    floatVal (toFloat w) * 2 ^ 31 = floatVal (rne32 w.toInt 0) := by
  have hmag := floatMag_rne32_word_le w
  have hval := floatVal_natAbs (rne32 w.toInt 0)
  have hlo : floatVal (rne32 w.toInt 0) ≠ 0 → 149 ≤ (floatVal (rne32 w.toInt 0)).natAbs.log2 := by
    intro hne
    have h0 : w.toInt ≠ 0 := by
      intro h0
      exact hne (by rw [h0]; decide)
    rw [Nat.le_log2 (by omega), hval]
    exact one_le_floatMag_rne32_int (natAbs_toInt_le w) h0
  have hhi := log2_le_of_le_two_pow (hval ▸ hmag)
  have hexact := floatVal_rne32_exact (v := floatVal (rne32 w.toInt 0)) (k := 180)
    (hval ▸ fits_floatMag _) (fun hne => by have := hlo hne; omega) (by omega)
  rw [toFloat, if_neg (by omega)]
  omega

/-- The values that toFloat can answer (R131). -/
theorem floatVal_toFloat_range (w : Word) :
    -(2 : Int) ^ 149 ≤ floatVal (toFloat w) ∧ floatVal (toFloat w) ≤ 2 ^ 149 - 2 ^ 125 := by
  obtain hclamp | hlt := le_or_gt (2 ^ 180) (floatVal (rne32 w.toInt 0))
  · rw [toFloat_of_clamped hclamp]
    decide
  · have hexact := floatVal_toFloat_of_not_clamped hlt
    have hmag := floatMag_rne32_word_le w
    have hval := floatVal_natAbs (rne32 w.toInt 0)
    have hgrid := floatMag_grid (b := rne32 w.toInt 0) (k := 156)
    omega

/-- Only the zero word gives a value below 2^-31. -/
theorem floatMag_toFloat_ge {w : Word} (h : w ≠ 0#32) : 2 ^ 118 ≤ floatMag (toFloat w) := by
  obtain hclamp | hlt := le_or_gt (2 ^ 180) (floatVal (rne32 w.toInt 0))
  · rw [toFloat_of_clamped hclamp]
    decide
  · have hexact := floatVal_toFloat_of_not_clamped hlt
    have hmag := one_le_floatMag_rne32_int (natAbs_toInt_le w) (BitVec.toInt_ne.mpr h)
    rw [← floatVal_natAbs] at hmag ⊢
    omega

theorem floatExp_toFloat_lt (w : Word) : floatExp (toFloat w) < 255 := by
  have hrange := floatVal_toFloat_range w
  have hval := floatVal_natAbs (toFloat w)
  have := floatExp_le_of_floatMag_le (b := toFloat w) (by omega)
  omega

/-- No result is subnormal or -0. -/
theorem toFloat_eq_zero_of_floatExp_zero {w : Word} (h : floatExp (toFloat w) = 0) : toFloat w = 0#32 := by
  by_cases h0 : w = 0#32
  · rw [h0]; decide
  · have hmag := floatMag_toFloat_ge h0
    have hfrac := floatFrac_lt (toFloat w)
    rw [floatMag_of_floatExp_zero h] at hmag
    omega

/-- Settles O55, by the values of the rounded word and the exact division. -/
theorem toFloatRange : Obligations.ToFloatRange := by
  intro w
  have hexp := floatExp_toFloat_lt w
  obtain ⟨hlo, hhi⟩ := floatVal_toFloat_range w
  refine ⟨isNaN_eq_false hexp, isInf_eq_false hexp, hlo, hhi, toFloat_eq_zero_of_floatExp_zero, fun hne => ?_⟩
  rw [floatVal_natAbs]
  refine floatMag_toFloat_ge ?_
  rintro rfl
  exact hne (by decide)

/-- A word of the format has a 24-bit sample at its bits 31:8 (R132). -/
theorem toInt_of_low_zero {w : Word} (h : w.extractLsb' 0 8 = 0#8) : w.toInt = w.toInt / 2 ^ 8 * 2 ^ 8 := by
  have hlow : w.toNat % 2 ^ 8 = 0 := by simpa using congrArg BitVec.toNat h
  rw [BitVec.toInt_eq_toNat_cond]
  split <;> omega

/-- The first rounding does not change such a word. -/
theorem floatVal_rne32_of_low_zero {w : Word} (h : w.extractLsb' 0 8 = 0#8) :
    floatVal (rne32 w.toInt 0) = w.toInt * 2 ^ 149 := by
  have hx := natAbs_toInt_le w
  have hs := toInt_of_low_zero h
  have habs : w.toInt.natAbs = (w.toInt / 2 ^ 8).natAbs * 2 ^ 8 := by omega
  exact floatVal_rne32_int_exact hx (habs ▸ fits_scaled (by omega) 8)

theorem not_clamped_of_low_zero {w : Word} (h : w.extractLsb' 0 8 = 0#8) :
    floatVal (rne32 w.toInt 0) < 2 ^ 180 := by
  have := w.toInt_lt
  rw [floatVal_rne32_of_low_zero h]
  omega

/-- toFloat of such a word is its sample x 2^-23. -/
theorem floatVal_toFloat_of_low_zero {w : Word} (h : w.extractLsb' 0 8 = 0#8) :
    floatVal (toFloat w) = w.toInt / 2 ^ 8 * 2 ^ 126 := by
  have hexact := floatVal_toFloat_of_not_clamped (not_clamped_of_low_zero h)
  have hround := floatVal_rne32_of_low_zero h
  have hs := toInt_of_low_zero h
  omega

/-- Settles O56: a sample has at most 24 significant bits, so both roundings are exact. -/
theorem toFloatExactOnSamples : Obligations.ToFloatExactOnSamples := by
  refine ⟨fun w h => ⟨floatVal_rne32_of_low_zero h, not_clamped_of_low_zero h, floatVal_toFloat_of_low_zero h, ?_⟩,
    by decide⟩
  have hmin : floatVal 0xBF800000#32 = -2 ^ 149 := by decide
  have hmax : floatVal 0x3F7FFFFE#32 = 2 ^ 149 - 2 ^ 126 := by decide
  have := w.toInt_lt
  have := w.le_toInt
  rw [floatVal_toFloat_of_low_zero h, hmin, hmax]
  omega

/-- Settles O57, by the significand of the integers from 2^30 up. -/
theorem toFloatClampRegion : Obligations.ToFloatClampRegion := by
  refine ⟨fun x => rne32_int_eq_two_pow_31_iff, by decide,
    fun w => two_pow_31_le_rne32_int_iff w.le_toInt w.toInt_lt, fun w h => ?_, fun w h => ?_⟩
  · have hround := rne32_int_of_clamped h w.toInt_lt
    rw [toFloat_of_clamped (by rw [hround]; decide), hround]
    decide
  · exact floatVal_rne32_int_lt w.le_toInt (by omega)

/-! ### toFixed -/

theorem toFixed_of_finite {b : Word} (hnan : isNaN b = false) (hinf : isInf b = false) :
    toFixed b = fixedWord (min (max ((floatVal b + 2 ^ 125) / 2 ^ 126) (-2 ^ 23)) (2 ^ 23 - 1)) := by
  simp [toFixed, hnan, hinf]

/-- Every result is the word of a 24-bit integer. -/
theorem toFixed_eq_fixedWord (b : Word) : ∃ n : Int, -2 ^ 23 ≤ n ∧ n ≤ 2 ^ 23 - 1 ∧ toFixed b = fixedWord n := by
  simp only [toFixed]
  split_ifs
  · exact ⟨0, by decide, by decide, rfl⟩
  · exact ⟨_, by decide, by decide, rfl⟩
  · exact ⟨_, by decide, by decide, rfl⟩
  · exact ⟨_, by omega, by omega, rfl⟩

theorem toInt_fixedWord {n : Int} (hlo : -2 ^ 23 ≤ n) (hhi : n ≤ 2 ^ 23 - 1) : (fixedWord n).toInt = n * 2 ^ 8 :=
  BitVec.toInt_ofInt_eq_self (by decide) (by omega) (by omega)

/-- The low byte of a fixed-point word is 0. -/
theorem fixedWord_low (n : Int) : (fixedWord n).extractLsb' 0 8 = 0#8 := by
  apply BitVec.eq_of_toNat_eq
  simp only [fixedWord, BitVec.extractLsb'_toNat, BitVec.toNat_ofInt, Nat.shiftRight_zero, BitVec.toNat_ofNat]
  omega

/-- A word of the format is the word of its sample. -/
theorem fixedWord_of_low_zero {w : Word} (h : w.extractLsb' 0 8 = 0#8) : fixedWord (w.toInt / 2 ^ 8) = w := by
  rw [fixedWord, ← toInt_of_low_zero h, BitVec.ofInt_toInt]

/-- Settles O58: the clamps act on a floor quotient, and values beyond -1 lie on the grid of 2^-23. -/
theorem toFixedRoundsAndSaturates : Obligations.ToFixedRoundsAndSaturates := by
  refine ⟨fun b hnan hinf => ⟨(floatVal b + 2 ^ 125) / 2 ^ 126, by omega, by omega, toFixed_of_finite hnan hinf⟩,
    by decide, by decide, by decide, fun b hnan hinf => ?_, by decide⟩
  have hfix := toFixed_of_finite hnan hinf
  refine ⟨by omega, fun h => ?_, by omega, fun h => ?_, ?_⟩
  · rw [hfix, max_eq_left (by omega), min_eq_right (by omega)]
    decide
  · rw [hfix, max_eq_right (by omega), min_eq_left (by decide)]
    decide
  · have hgrid := floatMag_grid (b := b) (k := 126)
    rw [← floatVal_natAbs] at hgrid
    omega

/-- A zero or a subnormal is below 2^-126 in magnitude. -/
theorem natAbs_floatVal_lt_of_floatExp_zero {b : Word} (h : floatExp b = 0) : (floatVal b).natAbs < 2 ^ 23 := by
  rw [floatVal_natAbs, floatMag_of_floatExp_zero h]
  exact floatFrac_lt b

/-- Settles O59: every result is the word of a 24-bit integer, and a subnormal is far below half a sample unit. -/
theorem toFixedFormatAndSpecialInputs : Obligations.ToFixedFormatAndSpecialInputs := by
  refine ⟨fun b => ?_, fun b h => ?_, by decide, fun b hexp hfrac => ?_⟩
  · obtain ⟨n, hlo, hhi, hfix⟩ := toFixed_eq_fixedWord b
    rw [hfix]
    exact ⟨fixedWord_low n, n, hlo, hhi, toInt_fixedWord hlo hhi⟩
  · have hsmall := natAbs_floatVal_lt_of_floatExp_zero h
    have hround : (floatVal b + 2 ^ 125) / 2 ^ 126 = 0 := by omega
    refine ⟨hsmall, hround, ?_⟩
    rw [toFixed_of_finite (isNaN_eq_false (by omega)) (isInf_eq_false (by omega)), hround]
    decide
  · have hnan : isNaN b = true := by simp [isNaN, hexp, hfrac]
    simp [toFixed, hnan]

/-! ### The round trips (R141) -/

/-- toFixed is the inverse of toFloat on the words of the format. -/
theorem toFixed_toFloat {w : Word} (h : w.extractLsb' 0 8 = 0#8) : toFixed (toFloat w) = w := by
  have hexp := floatExp_toFloat_lt w
  have := w.toInt_lt
  have := w.le_toInt
  have hround : (w.toInt / 2 ^ 8 * 2 ^ 126 + 2 ^ 125) / 2 ^ 126 = w.toInt / 2 ^ 8 := by omega
  rw [toFixed_of_finite (isNaN_eq_false hexp) (isInf_eq_false hexp), floatVal_toFloat_of_low_zero h, hround,
    max_eq_left (by omega), min_eq_left (by omega), fixedWord_of_low_zero h]

/-- toFloat of the word of a 24-bit integer. -/
theorem floatVal_toFloat_fixedWord {n : Int} (hlo : -2 ^ 23 ≤ n) (hhi : n ≤ 2 ^ 23 - 1) :
    floatVal (toFloat (fixedWord n)) = n * 2 ^ 126 := by
  rw [floatVal_toFloat_of_low_zero (fixedWord_low n), toInt_fixedWord hlo hhi, Int.mul_ediv_cancel _ (by decide)]

/-- Settles O60: toFixed answers the word of an integer, on which toFloat is exact. -/
theorem conversionRoundTrip : Obligations.ConversionRoundTrip := by
  refine ⟨fun w => toFixed_toFloat, fun b hnan hinf hlo hhi => ?_, fun b hnan hinf hlo hhi => ?_⟩
  · have hfix := toFixed_of_finite hnan hinf
    rw [max_eq_left (by omega), min_eq_left (by omega)] at hfix
    refine ⟨_, hfix, ?_, by omega⟩
    rw [hfix, floatVal_toFloat_fixedWord (by omega) (by omega)]
  · have hfix := toFixed_of_finite hnan hinf
    rw [max_eq_left (by omega), min_eq_right (by omega)] at hfix
    rw [hfix, floatVal_toFloat_fixedWord (by decide) (by decide)]
    omega

/-! ### The converter's registers (R142, R143) -/

/-- A read of CVT_FLT_OUT answers the conversion of CVT_FIX_IN. -/
theorem exec_rdCvtFltOut (s : State) : exec .rdCvtFltOut s = .next (answered (toFloat s.cvtFixIn) s) := rfl

/-- A read of CVT_FIX_OUT answers the conversion of CVT_FLT_IN. -/
theorem exec_rdCvtFixOut (s : State) : exec .rdCvtFixOut s = .next (answered (toFixed s.cvtFltIn) s) := rfl

/-- A write of CVT_FIX_IN stores the word. -/
theorem exec_wrCvtFixIn (v : Word) (s : State) :
    exec (.wrCvtFixIn v) s = .next { respondWrite s with cvtFixIn := v } := rfl

/-- A write of CVT_FLT_IN stores the word. -/
theorem exec_wrCvtFltIn (v : Word) (s : State) :
    exec (.wrCvtFltIn v) s = .next { respondWrite s with cvtFltIn := v } := rfl

/-- Settles O10: an answered read leaves the inputs, and a write of an input is what the next read converts. -/
theorem converterReadsAnswerTheConversion : Obligations.ConverterReadsAnswerTheConversion := by
  refine ⟨⟨rfl, rfl⟩, fun s => ⟨exec_rdCvtFltOut s, exec_rdCvtFixOut s, exec_rdCvtFltOut _, exec_rdCvtFixOut _⟩,
    fun v s => ⟨⟨_, exec_wrCvtFixIn v s, exec_rdCvtFltOut _⟩, ⟨_, exec_wrCvtFltIn v s, exec_rdCvtFixOut _⟩⟩, by decide⟩

end Sys2Proof.Machine
end

section
/-! Proofs about the acceptance of commands (spec/41_control.md R161 to R165). -/

namespace Sys2Proof.Machine

/-! ### The meaning of each command row -/

theorem exec_config (s : State) : exec .config s = execConfig s := rfl
theorem exec_enable (p : Bool) (s : State) : exec (.enable p) s = execEnable p s := rfl
theorem exec_readBlock (s : State) : exec .readBlock s = execReadBlock s := rfl
theorem exec_writeBlock (s : State) : exec .writeBlock s = execWriteBlock s := rfl
theorem exec_wrCmd (w : Word) (s : State) : exec (.wrCmd w) s = execWrCmd w s := rfl

/-- NOP is accepted in every state and answers the old state (R165). -/
theorem exec_nop (s : State) : exec .nop s = .next (answered (Config.freeBusRdata s.cycle) s) := rfl

/-- A decoded command has the meaning of its row in the opcode table. -/
theorem execCommand_eq_exec (c : Command) (s : State) : execCommand c s = exec (commandInstr c) s := by
  cases c <;> rfl

/-! ### CMD writes, by what their word decodes to -/

/-- A legal word does its command (R160). -/
theorem exec_wrCmd_of_ok {w : Word} {c : Command} (h : decodeCommand w = .ok c) (s : State) :
    exec (.wrCmd w) s = exec (commandInstr c) s := by
  simpa [h, exec_wrCmd, execCommand_eq_exec] using execWrCmd_cases w s

/-- An illegal word is refused with CMD_ILLEGAL, whatever the state (R161). -/
theorem exec_wrCmd_of_error {w : Word} {e : DecodeError} (h : decodeCommand w = .error e) (s : State) :
    exec (.wrCmd w) s = refuseWrite .cmdIllegal s := by
  simpa [h, exec_wrCmd] using execWrCmd_cases w s

/-! ### Refusals of the legal commands, by the rows of R162 -/

/-- BUSY is the disjunction of the three busy bits (R162). -/
theorem busy_eq_true_iff (s : State) :
    busy s = true ↔ s.cfgBusy = true ∨ s.rdBusy = true ∨ s.wrBusy = true := by
  simp [busy, or_assoc]

/-- CONFIG while a command is in flight. -/
theorem exec_config_of_busy {s : State} (hbusy : busy s = true) :
    exec .config s = refuseWrite .cmdBusy s := by
  simpa [hbusy, exec_config] using execConfig_cases s

/-- READ_BLOCK while a command is in flight. -/
theorem exec_readBlock_of_busy {s : State} (hbusy : busy s = true) :
    exec .readBlock s = refuseWrite .cmdBusy s := by
  simpa [hbusy, exec_readBlock] using execReadBlock_cases s

/-- WRITE_BLOCK while a command is in flight. -/
theorem exec_writeBlock_of_busy {s : State} (hbusy : busy s = true) :
    exec .writeBlock s = refuseWrite .cmdBusy s := by
  simpa [hbusy, exec_writeBlock] using execWriteBlock_cases s

/-- ENABLE during a CONFIG. -/
theorem exec_enable_of_cfgBusy {s : State} (p : Bool) (hcfg : s.cfgBusy = true) :
    exec (.enable p) s = refuseWrite .cmdBusy s := by
  simpa [hcfg, exec_enable] using execEnable_cases p s

/-- CONFIG outside UNINIT, with no command in flight. -/
theorem exec_config_outside_uninit {s : State} (hidle : Idle s) (hlife : s.life ≠ .uninit) :
    exec .config s = refuseWrite .cmdState s := by
  have hbusy := (busy_eq_false_iff s).mpr hidle
  simpa [hbusy, hlife, exec_config] using execConfig_cases s

/-- READ_BLOCK in UNINIT, with no command in flight. -/
theorem exec_readBlock_in_uninit {s : State} (hidle : Idle s) (hlife : s.life = .uninit) :
    exec .readBlock s = refuseWrite .cmdState s := by
  have hbusy := (busy_eq_false_iff s).mpr hidle
  simpa [hbusy, hlife, exec_readBlock] using execReadBlock_cases s

/-- WRITE_BLOCK in UNINIT, with no command in flight. -/
theorem exec_writeBlock_in_uninit {s : State} (hidle : Idle s) (hlife : s.life = .uninit) :
    exec .writeBlock s = refuseWrite .cmdState s := by
  have hbusy := (busy_eq_false_iff s).mpr hidle
  simpa [hbusy, hlife, exec_writeBlock] using execWriteBlock_cases s

/-! ### What a refused command records -/

/-- A refused command records the one bit of its cause and changes nothing else (R163). -/
theorem recorded_of_refused {i : Instr} {c : ErrCause} {s : State} (h : exec i s = refuseWrite c s) :
    ∃ d, exec i s = .next (recorded (BitVec.twoPow 10 (errBit c)) d s) :=
  ⟨_, by rw [h, refuseWrite_eq, raiseError_respondWrite]⟩

/-- Settles O17: such a word decodes to no command. -/
theorem illegalCommandWordRaisesOnlyCmdIllegal : Obligations.IllegalCommandWordRaisesOnlyCmdIllegal :=
  fun _ s hout => recorded_of_refused (exec_wrCmd_of_error (decodeCommand_illegal hout) s)

/-- Settles O19: the word 0 decodes to NOP, and the word with ARG = 1 and OP = 0 to no command. -/
theorem nopChangesNothing : Obligations.NopChangesNothing := by
  have hword : decodeCommand 0x00000000#32 = .ok .nop := by decide
  have harg : decodeCommand 0x00000100#32 = .error .illegalCommand := by decide
  refine ⟨rfl, fun s => ⟨_, exec_nop s⟩, fun s => ?_, harg, fun s => ?_⟩
  · exact ⟨_, (exec_wrCmd_of_ok hword s).trans (exec_nop s)⟩
  · exact recorded_of_refused (exec_wrCmd_of_error harg s)

/-- Settles O23: each clause is one refusal of R162's table; the two clauses with no command in flight are those in which
the check for busy has passed. -/
theorem rejectedCommandRaisesOneError : Obligations.RejectedCommandRaisesOneError := by
  intro s
  refine ⟨fun hflight => ?_, fun hcfg p => ?_, fun hidle hlife => ?_, fun hidle hlife => ⟨?_, ?_⟩, fun w hw => ?_⟩
  · have hbusy := (busy_eq_true_iff s).mpr hflight
    exact ⟨recorded_of_refused (exec_config_of_busy hbusy), recorded_of_refused (exec_readBlock_of_busy hbusy),
      recorded_of_refused (exec_writeBlock_of_busy hbusy)⟩
  · exact recorded_of_refused (exec_enable_of_cfgBusy p hcfg)
  · exact recorded_of_refused (exec_config_outside_uninit hidle hlife)
  · exact recorded_of_refused (exec_readBlock_in_uninit hidle hlife)
  · exact recorded_of_refused (exec_writeBlock_in_uninit hidle hlife)
  · exact recorded_of_refused (exec_wrCmd_of_error hw s)

end Sys2Proof.Machine
end

section
/-! Proofs about the power line during a CONFIG (spec/42_setup.md R181 to R198): from a state with CFG_BUSY = 1 no host access and
no transfer changes CFG_BUSY or PWR, and only the FINISH stage ends the CONFIG. -/

namespace Sys2Proof.Machine

/-- CFG_BUSY and PWR, which R198 ties together. -/
def configPower (s : State) : Bool × Bool := (s.cfgBusy, s.pwr)

theorem configPower_eq_iff {s t : State} :
    configPower t = configPower s ↔ t.cfgBusy = s.cfgBusy ∧ t.pwr = s.pwr := Prod.mk_inj

/-- The outcome is a next state in which CFG_BUSY and PWR are as in `s`. -/
def KeepsConfigPower (s : State) (o : Host.Outcome State Fault Refusal) : Prop :=
  ∃ u, o = .next u ∧ configPower u = configPower s

/-! ### The host access -/

theorem refuseWrite_keepsConfigPower (c : ErrCause) (s : State) : KeepsConfigPower s (refuseWrite c s) := ⟨_, rfl, rfl⟩

theorem readRbufWindow_keepsConfigPower (view : Word → Word) (i : Nat) (s : State) :
    KeepsConfigPower s (readRbufWindow view i s) := by
  obtain ⟨-, -, h⟩ | ⟨-, -, h⟩ | ⟨-, h⟩ := readRbufWindow_cases view i s
  all_goals exact ⟨_, h, rfl⟩

theorem readWbufWindow_keepsConfigPower (view : Word → Word) (i : Nat) (s : State) :
    KeepsConfigPower s (readWbufWindow view i s) := by
  obtain ⟨-, h⟩ | ⟨-, h⟩ := readWbufWindow_cases view i s
  all_goals exact ⟨_, h, rfl⟩

theorem writeWbufWindow_keepsConfigPower (i : Nat) (v : Word) (s : State) :
    KeepsConfigPower s (writeWbufWindow i v s) := by
  obtain ⟨-, -, h⟩ | ⟨-, -, h⟩ | ⟨-, h⟩ := writeWbufWindow_cases i v s
  all_goals exact ⟨_, h, rfl⟩

/-- During a CONFIG a configuration write is refused (R195). -/
theorem lockedWrite_of_cfgBusy (f : State → State) {s : State} (hbusy : s.cfgBusy = true) :
    lockedWrite f s = refuseWrite .cfgLocked s := by
  simp [lockedWrite, unlocked, hbusy]

/-- During a CONFIG every command but NOP is refused (R162). -/
theorem execCommand_keepsConfigPower (c : Command) {s : State} (hbusy : s.cfgBusy = true) :
    KeepsConfigPower s (exec (commandInstr c) s) := by
  have hflight : busy s = true := (busy_eq_true_iff s).mpr (.inl hbusy)
  have hrefused := refuseWrite_keepsConfigPower .cmdBusy s
  cases c with
  | nop => exact ⟨_, exec_nop s, rfl⟩
  | config => exact exec_config_of_busy hflight ▸ hrefused
  | enable p => exact exec_enable_of_cfgBusy p hbusy ▸ hrefused
  | readBlock => exact exec_readBlock_of_busy hflight ▸ hrefused
  | writeBlock => exact exec_writeBlock_of_busy hflight ▸ hrefused

theorem exec_wrCmd_keepsConfigPower (w : Word) {s : State} (hbusy : s.cfgBusy = true) :
    KeepsConfigPower s (exec (.wrCmd w) s) := by
  cases h : decodeCommand w with
  | ok c => exact exec_wrCmd_of_ok h s ▸ execCommand_keepsConfigPower c hbusy
  | error e => exact exec_wrCmd_of_error h s ▸ refuseWrite_keepsConfigPower .cmdIllegal s

/-- During a CONFIG no instruction changes CFG_BUSY or PWR: the commands and the configuration writes are refused, and the
other instructions do not reach these bits. -/
theorem exec_keepsConfigPower (i : Instr) {s : State} (hbusy : s.cfgBusy = true) : KeepsConfigPower s (exec i s) := by
  have hlocked (f : State → State) : KeepsConfigPower s (lockedWrite f s) :=
    lockedWrite_of_cfgBusy f hbusy ▸ refuseWrite_keepsConfigPower .cfgLocked s
  cases i with
  | config => exact execCommand_keepsConfigPower .config hbusy
  | enable p => exact execCommand_keepsConfigPower (.enable p) hbusy
  | readBlock => exact execCommand_keepsConfigPower .readBlock hbusy
  | writeBlock => exact execCommand_keepsConfigPower .writeBlock hbusy
  | wrCmd w => exact exec_wrCmd_keepsConfigPower w hbusy
  | wrCfgRate _ | wrCfgChan _ | wrCfgBlock _ | wrCfgBus _ | wrCfgMode _ => exact hlocked _
  | rdRbuf k | rdRbufF k => exact readRbufWindow_keepsConfigPower _ k s
  | rdWbuf k | rdWbufF k => exact readWbufWindow_keepsConfigPower _ k s
  | wrWbuf k _ | wrWbufF k _ => exact writeWbufWindow_keepsConfigPower k _ s
  | _ => exact ⟨_, rfl, rfl⟩

theorem undecodedAccess_keepsConfigPower (c : ErrCause) (acc : Access) (s : State) :
    KeepsConfigPower s (undecodedAccess c acc s) := by
  cases hw : acc.write
  · exact ⟨_, undecodedAccess_read c s hw, rfl⟩
  · exact ⟨_, undecodedAccess_write c s hw, rfl⟩

/-- During a CONFIG no host access changes CFG_BUSY or PWR. -/
theorem hostAccess_keepsConfigPower (acc : Access) {s : State} (hbusy : s.cfgBusy = true) :
    KeepsConfigPower s (hostAccess acc s) := by
  unfold hostAccess
  split
  · exact exec_keepsConfigPower _ hbusy
  all_goals exact undecodedAccess_keepsConfigPower _ acc s

/-! ### The transfer in flight -/

@[simp] theorem configPower_respondRead (v : Word) (s : State) : configPower (respondRead v s) = configPower s := rfl

@[simp] theorem configPower_registerEvents (ev : BitVec 4) (s : State) :
    configPower (registerEvents ev s) = configPower s := rfl

@[simp] theorem configPower_rxHandshake (a : AgentIn) (s : State) : configPower (rxHandshake a s) = configPower s := by
  rw [rxHandshake_eq]
  rfl

@[simp] theorem configPower_txHandshake (a : AgentIn) (s : State) : configPower (txHandshake a s) = configPower s := by
  rw [txHandshake_eq]
  rfl

@[simp] theorem configPower_endRead (s : State) : configPower (endRead s) = configPower s := by
  obtain ⟨-, h⟩ | ⟨-, -, h⟩ | ⟨-, -, h⟩ := endRead_cases s
  all_goals rw [h]; rfl

@[simp] theorem configPower_endWrite (s : State) : configPower (endWrite s) = configPower s := by
  obtain ⟨-, h⟩ | ⟨-, -, h⟩ | ⟨-, -, h⟩ := endWrite_cases s
  all_goals rw [h]; rfl

@[simp] theorem configPower_transferStep (a : AgentIn) (s : State) :
    configPower (transferStep a s) = configPower s := by
  simp only [transferStep]
  split_ifs <;> simp

@[simp] theorem configPower_transferAndRegister (a : AgentIn) (s : State) :
    configPower (transferAndRegister a s) = configPower s :=
  configPower_transferStep a s

/-! ### The stages -/

/-- An external stage does not end the CONFIG. -/
theorem stageExternal_cfgBusy (e : Nat) (next : CfgStage) (a : AgentIn) (s : State) :
    (stageExternal e next a s).cfgBusy = s.cfgBusy := by
  obtain ⟨-, h⟩ | ⟨-, -, h⟩ | ⟨-, -, h⟩ := stageExternal_cases e next a s
  all_goals simp [h]

/-- Only FINISH ends a CONFIG (R196). -/
theorem stageStep_cfgBusy {c : CfgStage} (a : AgentIn) (s : State) (hc : c ≠ .finish) :
    (stageStep c a s).cfgBusy = s.cfgBusy := by
  cases c with
  | install | pins | rate | zero => exact stageExternal_cfgBusy ..
  | mclk => simp only [stageStep, stageMclk]; split <;> rfl
  | settle => simp only [stageStep, stageSettle]; split <;> rfl
  | finish => exact absurd rfl hc
  | idle | validate | powerDown | clkRoute | alloc => rfl

/-- FINISH leaves the power line, whatever the outcome. -/
theorem stageFinish_pwr (s : State) : (stageFinish s).pwr = s.pwr := by
  simp only [stageFinish]
  split <;> rfl

/-! ### The cycle -/

/-- In a cycle of a CONFIG the stage's step acts on a state with CFG_BUSY and PWR as at the start of the cycle. -/
theorem cycleBody_during_config (access : Option Access) (a : AgentIn) {s : State} (hbusy : s.cfgBusy = true) :
    ∃ u, cycleBody access a s = .next (stageStep s.cfgStage a u) ∧ configPower u = configPower s := by
  cases access with
  | none => exact ⟨_, cycleBody_quiet a s, by simp [idleBus]⟩
  | some acc =>
    cases hw : acc.write
    · obtain ⟨u, hu, hkeep⟩ := hostAccess_keepsConfigPower acc hbusy
      exact ⟨transferAndRegister a u, by rw [cycleBody_read a s hw, hu, andThen_next], by simp [hkeep]⟩
    · have htransfer := configPower_transferStep a s
      have hbusy' : (transferStep a s).cfgBusy = true := (configPower_eq_iff.mp htransfer).1.trans hbusy
      obtain ⟨u, hu, hkeep⟩ := hostAccess_keepsConfigPower acc hbusy'
      exact ⟨registerEvents (transferEvents s (transferStep a s)) u,
        by rw [cycleBody_write a s hw, hu, andThen_next], by simp [hkeep]⟩

/-- A cycle that ends a CONFIG is a reset cycle or the FINISH stage, and leaves PWR = 0: POWER_DOWN has cleared it before
(R183), and nothing sets it during the CONFIG. -/
theorem pwr_eq_false_of_config_end {h : BusIn} {a : AgentIn} {s t : State} (hinv : Inv s) (hbusy : s.cfgBusy = true)
    (hrun : runCycle h a s = .next t) (hend : t.cfgBusy = false) : t.pwr = false := by
  cases hr : h.rstN
  · rw [runCycle_reset a s hr] at hrun
    obtain rfl := Host.Outcome.next.inj hrun
    rfl
  · obtain ⟨u, hbody, hkeep⟩ := cycleBody_during_config h.access a hbusy
    obtain ⟨hbusyKept, hpwrKept⟩ := configPower_eq_iff.mp hkeep
    rw [runCycle_live a s hr, hbody, andThen_next] at hrun
    obtain rfl := Host.Outcome.next.inj hrun
    rw [closeCycle_cfgBusy] at hend
    have hfinish : s.cfgStage = .finish := by
      by_contra hne
      rw [stageStep_cfgBusy a u hne, hbusyKept, hbusy] at hend
      exact absurd hend (by decide)
    have hpwr : s.pwr = false := hinv.poweredDownInConfig (by rw [hfinish]; decide)
    rw [closeCycle_pwr, hfinish]
    exact (stageFinish_pwr u).trans (hpwrKept.trans hpwr)

/-! ### STATUS (R23) -/

/-- STATUS bit 2 is CFG_BUSY. -/
theorem statusWord_getLsbD_two (s : State) : (statusWord s).getLsbD 2 = s.cfgBusy := by
  rw [statusWord, BitVec.getLsbD_append, BitVec.getLsbD_append]
  simp

/-- STATUS bit 5 is PWR. -/
theorem statusWord_getLsbD_five (s : State) : (statusWord s).getLsbD 5 = s.pwr := by
  rw [statusWord, BitVec.getLsbD_append, BitVec.getLsbD_append, BitVec.getLsbD_append, BitVec.getLsbD_append,
    BitVec.getLsbD_append]
  simp

theorem exec_rdStatus (s : State) : exec .rdStatus s = .next (answered (statusWord s) s) := rfl

/-- Settles O43: the step that ends the CONFIG leaves PWR = 0, which pwr_en and STATUS show. -/
theorem powerInactiveAfterConfig : Obligations.PowerInactiveAfterConfig := by
  intro s t hinv hbusy hstep hend
  have hpwr := pwr_eq_false_of_config_end hinv hbusy hstep hend
  exact ⟨hpwr, hpwr, _, exec_rdStatus t, (statusWord_getLsbD_two t).trans hend,
    (statusWord_getLsbD_five t).trans hpwr⟩

end Sys2Proof.Machine
end

section
/-! Proofs about the status words of a transfer (spec/44_block_io.md R246): what the transfer's step leaves in RD_STAT and
WR_STAT while the transfer runs and at each of its ends. -/

namespace Sys2Proof.Machine

/-! ### The words of R246 -/

/-- The status word while a transfer runs, where only PER_ERR may be 1. -/
def runningStat (n : Nat) (perErr : Bool) : BitVec n := if perErr then 0x08#n else 0x00#n

theorem twoPow_statPerErr (n : Nat) : BitVec.twoPow n statPerErr = 0x08#n :=
  BitVec.eq_of_toNat_eq (BitVec.toNat_twoPow n 3)

/-- Bit 3 tells the two running words apart. -/
theorem eq_runningStat_of_mem {n : Nat} (hn : 3 < n) {st : BitVec n} (h : st ∈ [0x00#n, 0x08#n]) :
    st = runningStat n (st.getLsbD 3) := by
  have hbit : (0x08#n).getLsbD 3 = true := by
    rw [← twoPow_statPerErr]
    simp [statPerErr, hn]
  simp only [List.mem_cons, List.not_mem_nil, or_false] at h
  obtain rfl | rfl := h
  · simp [runningStat]
  · simp [runningStat, hbit]

theorem runningStat_mem (n : Nat) (perErr : Bool) : runningStat n perErr ∈ [0x00#n, 0x08#n] := by
  cases perErr <;> simp [runningStat]

/-- An error input of the cycle joins the one that the word holds (R231, R235). -/
theorem setBit_statPerErr_runningStat (n : Nat) (seen now : Bool) :
    (if now then setBit (runningStat n seen) statPerErr else runningStat n seen) = runningStat n (seen || now) := by
  cases seen <;> cases now <;> simp [runningStat, setBit, twoPow_statPerErr]

theorem rdStatComplete_runningStat :
    ∀ perErr, rdStatComplete (runningStat 5 perErr) = if perErr then 0x19#5 else 0x01#5 := by decide

theorem rdStatTimeout_runningStat :
    ∀ perErr, rdStatTimeout (runningStat 5 perErr) = if perErr then 0x1F#5 else 0x17#5 := by decide

theorem wrStatComplete_runningStat :
    ∀ perErr, wrStatComplete (runningStat 6 perErr) = if perErr then 0x19#6 else 0x01#6 := by decide

theorem wrStatTimeout_runningStat_moved :
    ∀ perErr, wrStatTimeout (runningStat 6 perErr) false = if perErr then 0x1F#6 else 0x07#6 := by decide

theorem wrStatTimeout_runningStat_zero :
    ∀ perErr, wrStatTimeout (runningStat 6 perErr) true = if perErr then 0x3F#6 else 0x37#6 := by decide

/-! ### The handshakes -/

theorem rxHandshake_rdStat (a : AgentIn) {s : State} (h : s.rdStat ∈ [0x00#5, 0x08#5]) :
    (rxHandshake a s).rdStat = runningStat 5 (s.rdStat.getLsbD 3 || a.rxErr) := by
  rw [rxHandshake_eq, ← setBit_statPerErr_runningStat, ← eq_runningStat_of_mem (by decide) h]

theorem txHandshake_wrStat (a : AgentIn) {s : State} (h : s.wrStat ∈ [0x00#6, 0x08#6]) :
    (txHandshake a s).wrStat = runningStat 6 (s.wrStat.getLsbD 3 || a.txErr) := by
  rw [txHandshake_eq, ← setBit_statPerErr_runningStat, ← eq_runningStat_of_mem (by decide) h]

/-- A pointer below N that moves by at most one stays within the block (R229, R233). -/
theorem advanced_pointer_le {p : Word} {n : Nat} (moved : Bool) (h : p.toNat < n) :
    (if moved then p + 1#32 else p).toNat ≤ n := by
  cases moved <;> simp only [Bool.false_eq_true, if_false, if_true, BitVec.toNat_add, BitVec.toNat_ofNat] <;> omega

theorem rxHandshake_rptr_le (a : AgentIn) {s : State} (h : s.rptr.toNat < s.nActive.toNat) :
    (rxHandshake a s).rptr.toNat ≤ s.nActive.toNat := by
  rw [rxHandshake_eq]
  exact advanced_pointer_le a.rxValid h

theorem txHandshake_wptr_le (a : AgentIn) {s : State} (h : s.wptr.toNat < s.nActive.toNat) :
    (txHandshake a s).wptr.toNat ≤ s.nActive.toNat := by
  rw [txHandshake_eq]
  exact advanced_pointer_le a.txReady h

@[simp] theorem rxHandshake_nActive (a : AgentIn) (s : State) : (rxHandshake a s).nActive = s.nActive := by
  rw [rxHandshake_eq]

@[simp] theorem rxHandshake_rdBusy (a : AgentIn) (s : State) : (rxHandshake a s).rdBusy = s.rdBusy := by
  rw [rxHandshake_eq]

@[simp] theorem txHandshake_nActive (a : AgentIn) (s : State) : (txHandshake a s).nActive = s.nActive := by
  rw [txHandshake_eq]

@[simp] theorem txHandshake_wrBusy (a : AgentIn) (s : State) : (txHandshake a s).wrBusy = s.wrBusy := by
  rw [txHandshake_eq]

/-! ### The transfer's step -/

/-- After its step a read has completed the block of N words, has timed out or goes on, each with its word of R246. -/
def ReadStatusWord (n : Nat) (perErr : Bool) (t : State) : Prop :=
  (t.rdBusy = false ∧ t.rptr.toNat = n ∧ t.rdStat = if perErr then 0x19#5 else 0x01#5) ∨
  (t.rdBusy = false ∧ t.rptr.toNat < n ∧ t.rdStat = if perErr then 0x1F#5 else 0x17#5) ∨
  (t.rdBusy = true ∧ t.rdStat ∈ [0x00#5, 0x08#5])

/-- After its step a write has completed the block of N words, has timed out with some words moved or with none, or goes on,
each with its word of R246. -/
def WriteStatusWord (n : Nat) (perErr : Bool) (t : State) : Prop :=
  (t.wrBusy = false ∧ t.wptr.toNat = n ∧ t.wrStat = if perErr then 0x19#6 else 0x01#6) ∨
  (t.wrBusy = false ∧ 0 < t.wptr.toNat ∧ t.wptr.toNat < n ∧ t.wrStat = if perErr then 0x1F#6 else 0x07#6) ∨
  (t.wrBusy = false ∧ t.wptr.toNat = 0 ∧ t.wrStat = if perErr then 0x3F#6 else 0x37#6) ∨
  (t.wrBusy = true ∧ t.wrStat ∈ [0x00#6, 0x08#6])

theorem endRead_readStatusWord {s : State} {perErr : Bool} (hr : s.rdBusy = true)
    (hle : s.rptr.toNat ≤ s.nActive.toNat) (hstat : s.rdStat = runningStat 5 perErr) :
    ReadStatusWord s.nActive.toNat perErr (endRead s) := by
  obtain ⟨hptr, h⟩ | ⟨hptr, -, h⟩ | ⟨-, -, h⟩ := endRead_cases s
  all_goals rw [h, hstat]
  · exact .inl ⟨rfl, hptr, rdStatComplete_runningStat perErr⟩
  · exact .inr (.inl ⟨rfl, lt_of_le_of_ne hle hptr, rdStatTimeout_runningStat perErr⟩)
  · exact .inr (.inr ⟨hr, hstat ▸ runningStat_mem 5 perErr⟩)

theorem endWrite_writeStatusWord {s : State} {perErr : Bool} (hw : s.wrBusy = true)
    (hle : s.wptr.toNat ≤ s.nActive.toNat) (hstat : s.wrStat = runningStat 6 perErr) :
    WriteStatusWord s.nActive.toNat perErr (endWrite s) := by
  obtain ⟨hptr, h⟩ | ⟨hptr, -, h⟩ | ⟨-, -, h⟩ := endWrite_cases s
  all_goals rw [h, hstat]
  · exact .inl ⟨rfl, hptr, wrStatComplete_runningStat perErr⟩
  · have hlt := lt_of_le_of_ne hle hptr
    by_cases hzero : s.wptr = 0#32
    · rw [decide_eq_true hzero]
      exact .inr (.inr (.inl ⟨rfl, congrArg BitVec.toNat hzero, wrStatTimeout_runningStat_zero perErr⟩))
    · rw [decide_eq_false hzero]
      have hpos : 0 < s.wptr.toNat := Nat.pos_of_ne_zero fun h0 => hzero (BitVec.eq_of_toNat_eq h0)
      exact .inr (.inl ⟨rfl, hpos, hlt, wrStatTimeout_runningStat_moved perErr⟩)
  · exact .inr (.inr (.inr ⟨hw, hstat ▸ runningStat_mem 6 perErr⟩))

theorem transferStep_readStatusWord (a : AgentIn) {s : State} (hinv : Inv s) (hr : s.rdBusy = true) :
    ReadStatusWord s.nActive.toNat (s.rdStat.getLsbD 3 || a.rxErr) (transferStep a s) := by
  obtain ⟨-, -, hone⟩ := hinv.oneBusy
  have hw : s.wrBusy = false := by simpa [hr] using hone
  have hptr := rxHandshake_rptr_le a (hinv.pointerBelowEnd.1 hr)
  have hstat := rxHandshake_rdStat a (hinv.statusShape.1 hr)
  rw [transferStep_read a hr hw, ← rxHandshake_nActive a s]
  exact endRead_readStatusWord (by rwa [rxHandshake_rdBusy]) (by rwa [rxHandshake_nActive]) hstat

theorem transferStep_writeStatusWord (a : AgentIn) {s : State} (hinv : Inv s) (hw : s.wrBusy = true) :
    WriteStatusWord s.nActive.toNat (s.wrStat.getLsbD 3 || a.txErr) (transferStep a s) := by
  obtain ⟨-, -, hone⟩ := hinv.oneBusy
  have hr : s.rdBusy = false := by simpa [hw] using hone
  obtain ⟨-, -, hrunning, -⟩ := hinv.statusShape
  have hptr := txHandshake_wptr_le a (hinv.pointerBelowEnd.2 hw)
  have hstat := txHandshake_wrStat a (hrunning hw)
  rw [transferStep_write a hr hw, ← txHandshake_nActive a s]
  exact endWrite_writeStatusWord (by rwa [txHandshake_wrBusy]) (by rwa [txHandshake_nActive]) hstat

/-- Settles O34: the step of a transfer has one of the outcomes of R246; N > 0 tells a write that moved no word from a whole
block. -/
theorem finalStatusWords : Obligations.FinalStatusWords := by
  intro a s hinv
  obtain ⟨hrdRunning, -, hwrRunning, -⟩ := hinv.statusShape
  refine ⟨fun hr => ⟨hrdRunning hr, ?_⟩, fun hw => ⟨hwrRunning hw, ?_⟩⟩
  · obtain ⟨hend, hptr, hword⟩ | ⟨hend, hptr, hword⟩ | ⟨hgoes, hword⟩ := transferStep_readStatusWord a hinv hr
    · simp [hend, hptr, hword]
    · simp [hend, hptr, hptr.ne, hword]
    · exact ⟨fun _ => hword, by simp [hgoes]⟩
  · have hsize : 0 < s.nActive.toNat := Nat.zero_lt_of_lt (hinv.pointerBelowEnd.2 hw)
    obtain ⟨hend, hptr, hword⟩ | ⟨hend, hpos, hptr, hword⟩ | ⟨hend, hptr, hword⟩ | ⟨hgoes, hword⟩ :=
      transferStep_writeStatusWord a hinv hw
    · simp [hend, hptr, hsize.ne', hword]
    · simp [hend, hptr, hptr.ne, hptr.le, hpos, hpos.ne', hword]
    · simp [hend, hptr, hsize.ne, hword]
    · exact ⟨fun _ => hword, by simp [hgoes]⟩

end Sys2Proof.Machine
end

section
/-! Proofs about the encoder and the decoder of host-access keys (spec/30_encoding.md R100-R108): a key is its write bit and window,
K[20:16], before its offset, K[15:0]. -/

namespace Sys2Proof

/-! ### The fields of a key -/

theorem key_write_eq (key : BitVec 21) : key.getLsbD 20 = decide (2 ^ 20 ≤ key.toNat) := BitVec.msb_eq_decide key

theorem windowKey_toNat (window : BitVec 5) (i : Nat) :
    (windowKey window i).toNat = window.toNat * 2 ^ 16 + i % 2 ^ 14 * 4 := by
  have hindex : window.toNat <<< 14 ||| i % 2 ^ 14 = window.toNat <<< 14 + i % 2 ^ 14 :=
    (Nat.shiftLeft_add_eq_or_of_lt (Nat.mod_lt _ (by decide)) _).symm
  simp only [windowKey, BitVec.toNat_append, BitVec.toNat_ofNat, Nat.zero_mod, Nat.or_zero]
  rw [hindex, Nat.shiftLeft_eq, Nat.shiftLeft_eq]
  omega

theorem windowKey_low (window : BitVec 5) (i : Nat) : (windowKey window i).extractLsb' 0 2 = 0#2 := by
  apply BitVec.eq_of_toNat_eq
  simp only [BitVec.extractLsb'_toNat, windowKey_toNat, Nat.shiftRight_eq_div_pow, BitVec.toNat_ofNat]
  omega

theorem windowKey_window (window : BitVec 5) (i : Nat) :
    (windowKey window i).extractLsb' 16 4 = window.extractLsb' 0 4 := by
  apply BitVec.eq_of_toNat_eq
  have := window.isLt
  simp only [BitVec.extractLsb'_toNat, windowKey_toNat, Nat.shiftRight_eq_div_pow]
  omega

theorem windowKey_write (window : BitVec 5) (i : Nat) : (windowKey window i).getLsbD 20 = window.getLsbD 4 := by
  have hmsb : window.getLsbD 4 = decide (2 ^ 4 ≤ window.toNat) := BitVec.msb_eq_decide window
  rw [key_write_eq, hmsb, windowKey_toNat, decide_eq_decide]
  omega

theorem windowIndex_windowKey (window : BitVec 5) {i : Nat} (hi : i < windowWords) :
    windowIndex (windowKey window i) = i := by
  simp only [windowWords] at hi
  simp only [windowIndex, BitVec.extractLsb'_toNat, windowKey_toNat, Nat.shiftRight_eq_div_pow]
  omega

theorem windowIndex_lt (key : BitVec 21) : windowIndex key < windowWords := (key.extractLsb' 2 14).isLt

/-- K[20:16]: the write bit and the window of R108. -/
def keyTop (write : Bool) (window : BitVec 4) : BitVec 5 := BitVec.ofBool write ++ window

theorem keyTop_toNat (key : BitVec 21) :
    (keyTop (key.getLsbD 20) (key.extractLsb' 16 4)).toNat = key.toNat / 2 ^ 16 := by
  have := key.isLt
  rw [keyTop, BitVec.toNat_append, ← Nat.shiftLeft_add_eq_or_of_lt (BitVec.isLt _), Nat.shiftLeft_eq,
    BitVec.toNat_ofBool, BitVec.extractLsb'_toNat, Nat.shiftRight_eq_div_pow, key_write_eq]
  by_cases hwrite : 2 ^ 20 ≤ key.toNat
  · simp only [hwrite, decide_true, Bool.toNat_true]
    omega
  · simp only [hwrite, decide_false, Bool.toNat_false]
    omega

/-- A key is K[20:16] before the register offset K[15:0]. -/
theorem key_eq_append (key : BitVec 21) :
    keyTop (key.getLsbD 20) (key.extractLsb' 16 4) ++ key.extractLsb' 0 16 = key := by
  apply BitVec.eq_of_toNat_eq
  rw [BitVec.toNat_append, ← Nat.shiftLeft_add_eq_or_of_lt (BitVec.isLt _), Nat.shiftLeft_eq, keyTop_toNat,
    BitVec.extractLsb'_toNat, Nat.shiftRight_zero]
  omega

/-- An aligned key is the window key of its write bit, window and index. -/
theorem windowKey_windowIndex {key : BitVec 21} (ha : key.extractLsb' 0 2 = 0#2) :
    windowKey (keyTop (key.getLsbD 20) (key.extractLsb' 16 4)) (windowIndex key) = key := by
  apply BitVec.eq_of_toNat_eq
  have hlow : key.toNat % 4 = 0 := by simpa using congrArg BitVec.toNat ha
  rw [windowKey_toNat, keyTop_toNat, windowIndex, BitVec.extractLsb'_toNat, Nat.shiftRight_eq_div_pow]
  omega

/-! ### Decoding an encoded instruction -/

/-- A key decodes to what the decoder of its direction answers, where it is aligned. -/
theorem decodeKey_eq_ok_iff {key : BitVec 21} {v : Word} {i : Instr} :
    decodeKey key v = .ok i ↔
      key.extractLsb' 0 2 = 0#2 ∧ (if key.getLsbD 20 then decodeWrite key v else decodeRead key) = some i := by
  unfold decodeKey
  by_cases ha : key.extractLsb' 0 2 = 0#2
  · simp only [ha, if_true, true_and]
    cases (if key.getLsbD 20 then decodeWrite key v else decodeRead key) <;> simp
  · simp [ha]

theorem decodeKey_windowKey {window : BitVec 5} {i : Nat} {v : Word} {j : Instr}
    (h : (if window.getLsbD 4 then decodeWrite (windowKey window i) v else decodeRead (windowKey window i)) = some j) :
    decodeKey (windowKey window i) v = .ok j :=
  decodeKey_eq_ok_iff.mpr ⟨windowKey_low window i, by rwa [windowKey_write]⟩

/-- Settles O3: the table rows by evaluation, the window rows at every index by the fields of their key. -/
theorem decodeEncodeRoundTrip : Obligations.DecodeEncodeRoundTrip := by
  intro i hwf
  cases i with
  | rdRbuf k | rdRbufF k | rdWbuf k | rdWbufF k | wrRbuf k v | wrRbufF k v | wrWbuf k v | wrWbufF k v =>
    have hindex (window : BitVec 5) := windowIndex_windowKey window (of_decide_eq_true hwf)
    apply decodeKey_windowKey
    simp [decodeRead, decodeWrite, windowKey_window, hindex]
  | enable p => cases p <;> rfl
  | _ => rfl

/-! ### Encoding a decoded key -/

/-- Every register read encodes to its offset (R104). -/
theorem encode_readableRegisters :
    ∀ p ∈ readableRegisters, p.2.WellFormed = true ∧ encode p.2 = .access (0x00#5 ++ p.1) 0#32 := by decide

/-- Every register write encodes to its offset, with the write bit and its data (R104). -/
theorem encode_writableRegisters (v : Word) :
    ∀ p ∈ writableRegisters, (p.2 v).WellFormed = true ∧ encode (p.2 v) = .access (0x10#5 ++ p.1) v := by
  intro p hp
  fin_cases hp <;> exact ⟨rfl, rfl⟩

theorem mem_of_lookup_eq_some {α : Type} {table : List (BitVec 16 × α)} {off : BitVec 16} {x : α}
    (h : table.lookup off = some x) : (off, x) ∈ table := by
  obtain ⟨l₁, l₂, h, -⟩ := List.lookup_eq_some_iff.mp h
  simp [h]

/-- The windows that a read reaches (R108). -/
def readableWindows : List (BitVec 4 × (Nat → Instr)) :=
  [(0x1#4, .rdRbuf), (0x2#4, .rdRbufF), (0x3#4, .rdWbuf), (0x4#4, .rdWbufF)]

/-- The windows that a write reaches (R108). -/
def writableWindows : List (BitVec 4 × (Nat → Word → Instr)) :=
  [(0x1#4, .wrRbuf), (0x2#4, .wrRbufF), (0x3#4, .wrWbuf), (0x4#4, .wrWbufF)]

theorem encode_readableWindows {i : Nat} (hi : i < windowWords) :
    ∀ p ∈ readableWindows, (p.2 i).WellFormed = true ∧ encode (p.2 i) = .access (windowKey (keyTop false p.1) i) 0#32 := by
  intro p hp
  fin_cases hp <;> exact ⟨decide_eq_true hi, rfl⟩

theorem encode_writableWindows {i : Nat} (hi : i < windowWords) (v : Word) :
    ∀ p ∈ writableWindows, (p.2 i v).WellFormed = true ∧ encode (p.2 i v) = .access (windowKey (keyTop true p.1) i) v := by
  intro p hp
  fin_cases hp <;> exact ⟨decide_eq_true hi, rfl⟩

/-- A read decodes to a register by its offset, or to a window word. -/
theorem decodeRead_eq_some {key : BitVec 21} {i : Instr} (h : decodeRead key = some i) :
    (key.extractLsb' 16 4 = 0#4 ∧ (key.extractLsb' 0 16, i) ∈ readableRegisters) ∨
    (∃ p ∈ readableWindows, key.extractLsb' 16 4 = p.1 ∧ i = p.2 (windowIndex key)) := by
  simp only [decodeRead] at h
  split_ifs at h with h0 h1 h2 h3 h4
  · exact .inl ⟨h0, mem_of_lookup_eq_some h⟩
  · exact .inr ⟨(0x1#4, .rdRbuf), by simp [readableWindows], h1, (Option.some.inj h).symm⟩
  · exact .inr ⟨(0x2#4, .rdRbufF), by simp [readableWindows], h2, (Option.some.inj h).symm⟩
  · exact .inr ⟨(0x3#4, .rdWbuf), by simp [readableWindows], h3, (Option.some.inj h).symm⟩
  · exact .inr ⟨(0x4#4, .rdWbufF), by simp [readableWindows], h4, (Option.some.inj h).symm⟩

/-- A write decodes to a register by its offset, or to a window word. -/
theorem decodeWrite_eq_some {key : BitVec 21} {v : Word} {i : Instr} (h : decodeWrite key v = some i) :
    (∃ mk, key.extractLsb' 16 4 = 0#4 ∧ (key.extractLsb' 0 16, mk) ∈ writableRegisters ∧ i = mk v) ∨
    (∃ p ∈ writableWindows, key.extractLsb' 16 4 = p.1 ∧ i = p.2 (windowIndex key) v) := by
  simp only [decodeWrite] at h
  split_ifs at h with h0 h1 h2 h3 h4
  · obtain ⟨mk, hmk, hi⟩ := Option.map_eq_some_iff.mp h
    exact .inl ⟨mk, h0, mem_of_lookup_eq_some hmk, hi.symm⟩
  · exact .inr ⟨(0x1#4, .wrRbuf), by simp [writableWindows], h1, (Option.some.inj h).symm⟩
  · exact .inr ⟨(0x2#4, .wrRbufF), by simp [writableWindows], h2, (Option.some.inj h).symm⟩
  · exact .inr ⟨(0x3#4, .wrWbuf), by simp [writableWindows], h3, (Option.some.inj h).symm⟩
  · exact .inr ⟨(0x4#4, .wrWbufF), by simp [writableWindows], h4, (Option.some.inj h).symm⟩

/-- A key that decodes as a read is the encoding of what it decodes to. -/
theorem encode_of_decodeRead {key : BitVec 21} {i : Instr} (ha : key.extractLsb' 0 2 = 0#2)
    (hread : key.getLsbD 20 = false) (h : decodeRead key = some i) :
    i.WellFormed = true ∧ encode i = .access key 0#32 := by
  obtain ⟨hwin, hmem⟩ | ⟨p, hp, hwin, rfl⟩ := decodeRead_eq_some h
  · have hkey := key_eq_append key
    rw [hread, hwin] at hkey
    exact hkey ▸ encode_readableRegisters _ hmem
  · have hkey := windowKey_windowIndex ha
    rw [hread, hwin] at hkey
    have henc := encode_readableWindows (windowIndex_lt key) p hp
    rwa [hkey] at henc

/-- A key that decodes as a write is the encoding of what it decodes to, with the write data. -/
theorem encode_of_decodeWrite {key : BitVec 21} {v : Word} {i : Instr} (ha : key.extractLsb' 0 2 = 0#2)
    (hwrite : key.getLsbD 20 = true) (h : decodeWrite key v = some i) :
    i.WellFormed = true ∧ encode i = .access key v := by
  obtain ⟨mk, hwin, hmem, rfl⟩ | ⟨p, hp, hwin, rfl⟩ := decodeWrite_eq_some h
  · have hkey := key_eq_append key
    rw [hwrite, hwin] at hkey
    exact hkey ▸ encode_writableRegisters v _ hmem
  · have hkey := windowKey_windowIndex ha
    rw [hwrite, hwin] at hkey
    have henc := encode_writableWindows (windowIndex_lt key) v p hp
    rwa [hkey] at henc

/-- Settles O4: a key is rebuilt from its write bit, window and offset or index. -/
theorem decodedKeyEncodesBack : Obligations.DecodedKeyEncodesBack := by
  intro key v i h
  obtain ⟨ha, hdir⟩ := decodeKey_eq_ok_iff.mp h
  cases hw : key.getLsbD 20 <;> rw [hw] at hdir
  · exact encode_of_decodeRead ha hw hdir
  · exact encode_of_decodeWrite ha hw hdir

/-- Settles O1. -/
theorem specWordsDecode : Obligations.SpecWordsDecode := by
  unfold Obligations.SpecWordsDecode
  decide

/-! ### What an access decodes to -/

theorem keyOf_write (write : Bool) (addr : BitVec 20) : (keyOf write addr).getLsbD 20 = write := by
  rw [keyOf, BitVec.getLsbD_append]
  simp

/-- An access that decodes is the encoding of its instruction. -/
theorem encode_of_decodeAccess {acc : Access} {i : Instr} (h : decodeAccess acc = .ok i) :
    encode i = .access (keyOf acc.write acc.addr) (if acc.write then acc.wdata else 0#32) := by
  unfold decodeAccess at h
  split_ifs at h with hs
  simpa only [keyOf_write] using (decodedKeyEncodesBack _ _ _ h).2

/-- No access decodes to a command row: a command is written to CMD (R101, R160). -/
theorem commandInstr_ne_of_decodeAccess {acc : Access} {i : Instr} (h : decodeAccess acc = .ok i) (c : Command) :
    commandInstr c ≠ i := by
  rintro rfl
  have henc := encode_of_decodeAccess h
  cases c with
  | enable p => cases p <;> cases henc
  | _ => cases henc

/-- A read access decodes to a read. -/
theorem mem_reads_of_decodeAccess {acc : Access} {i : Instr} (hread : acc.write = false)
    (h : decodeAccess acc = .ok i) : ∃ k, i ∈ Machine.registerReads ++ Machine.windowReads k := by
  have hregisters : ∀ p ∈ readableRegisters, p.2 ∈ Machine.registerReads := by decide
  unfold decodeAccess at h
  split_ifs at h with hs
  obtain ⟨-, hdir⟩ := decodeKey_eq_ok_iff.mp h
  rw [keyOf_write, hread] at hdir
  obtain ⟨-, hmem⟩ | ⟨p, hp, -, rfl⟩ := decodeRead_eq_some hdir
  · exact ⟨0, List.mem_append_left _ (hregisters _ hmem)⟩
  · refine ⟨windowIndex (keyOf false acc.addr), List.mem_append_right _ ?_⟩
    fin_cases hp <;> simp [Machine.windowReads]

/-- The accesses that store in a window of WBUF are writes at its offsets, 0x30000 to 0x4FFFF (R44). -/
theorem wbuf_offset_of_decodeAccess {acc : Access} {i : Nat} {v : Word}
    (h : decodeAccess acc = .ok (.wrWbuf i v) ∨ decodeAccess acc = .ok (.wrWbufF i v)) :
    acc.write = true ∧ 0x30000 ≤ acc.addr.toNat ∧ acc.addr.toNat < 0x50000 := by
  obtain ⟨window, hwindow, hkey⟩ : ∃ window ∈ [0x13#5, 0x14#5], windowKey window i = keyOf acc.write acc.addr := by
    obtain h | h := h
    · exact ⟨_, by simp, (Encoded.access.inj (encode_of_decodeAccess h)).1⟩
    · exact ⟨_, by simp, (Encoded.access.inj (encode_of_decodeAccess h)).1⟩
  have hwrite := windowKey_write window i
  have hoff := congrArg (BitVec.toNat ∘ BitVec.extractLsb' 0 20) hkey
  rw [hkey, keyOf_write] at hwrite
  simp only [Function.comp, keyOf_extractLsb'_low _ _ _ le_rfl, BitVec.extractLsb'_eq_self,
    BitVec.extractLsb'_toNat, windowKey_toNat, Nat.shiftRight_zero] at hoff
  fin_cases hwindow
  · exact ⟨hwrite, by simp at hoff; omega, by simp at hoff; omega⟩
  · exact ⟨hwrite, by simp at hoff; omega, by simp at hoff; omega⟩

end Sys2Proof
end

section
/-! Proofs about what a host access does to the state (spec/70_reset_and_hazards.md R293 step 4): `Effect` says once, for every row of
the opcode table, the next states that the access can leave; the statements about cycles follow from it. -/

namespace Sys2Proof.Machine

/-! ### The row of an access -/

/-- The row of the opcode table that an instruction does: a legal CMD write does its command (R160), an illegal one none. -/
def rowOf (i : Instr) : Option Instr :=
  match i with
  | .wrCmd w =>
    match decodeCommand w with
    | .ok c => some (commandInstr c)
    | .error _ => none
  | i => some i

/-- The row of the opcode table that an access does, if any. -/
def performedRow (acc : Access) : Option Instr :=
  match decodeAccess acc with
  | .ok i => rowOf i
  | .error _ => none

/-- The row of the opcode table that the host's access of a cycle does, if any. -/
def presentedRow (h : BusIn) : Option Instr := h.access.bind performedRow

theorem rowOf_wrCmd_of_ok {w : Word} {c : Command} (h : decodeCommand w = .ok c) :
    rowOf (.wrCmd w) = some (commandInstr c) := by
  simp [rowOf, h]

theorem rowOf_wrCmd_of_error {w : Word} {e : DecodeError} (h : decodeCommand w = .error e) : rowOf (.wrCmd w) = none := by
  simp [rowOf, h]

theorem rowOf_of_ne_wrCmd {i : Instr} (h : ∀ w, i ≠ .wrCmd w) : rowOf i = some i := by
  unfold rowOf
  split
  · exact absurd rfl (h _)
  · rfl

theorem performedRow_of_ok {acc : Access} {i : Instr} (h : decodeAccess acc = .ok i) : performedRow acc = rowOf i := by
  simp [performedRow, h]

theorem performedRow_of_error {acc : Access} {e : DecodeError} (h : decodeAccess acc = .error e) :
    performedRow acc = none := by
  simp [performedRow, h]

/-- A row that is no command's is the instruction that the access decodes to. -/
theorem decodeAccess_of_performedRow {acc : Access} {i : Instr} (h : performedRow acc = some i)
    (hi : ∀ c, commandInstr c ≠ i) : decodeAccess acc = .ok i := by
  unfold performedRow rowOf at h
  split at h
  · split at h
    · split at h
      · exact absurd (Option.some.inj h) (hi _)
      · cases h
    · simp_all
  · cases h

theorem presentedInstr_of_presentedRow {h : BusIn} {i : Instr} (hrow : presentedRow h = some i)
    (hi : ∀ c, commandInstr c ≠ i) : presentedInstr h = some i := by
  obtain ⟨acc, hacc, hrow⟩ := Option.bind_eq_some_iff.mp hrow
  simp [presentedInstr, hacc, decodeAccess_of_performedRow hrow hi]

theorem commandInstr_injective {c c' : Command} (h : commandInstr c = commandInstr c') : c = c' := by
  cases c <;> cases c' <;> simp_all [commandInstr]

theorem commandInstr_ne_wrCmd (c : Command) (w : Word) : commandInstr c ≠ .wrCmd w := by
  cases c <;> exact nofun

/-- The host presents a command exactly where its access does that command's row. -/
theorem presentedCommand_eq_some_iff {h : BusIn} {c : Command} :
    presentedCommand h = some c ↔ presentedRow h = some (commandInstr c) := by
  cases hacc : h.access with
  | none => simp [presentedCommand, presentedRow, hacc]
  | some acc =>
    simp only [presentedCommand, presentedRow, hacc, Option.bind_some]
    cases hdec : decodeAccess acc with
    | error e => simp [performedRow_of_error hdec]
    | ok i =>
      rw [performedRow_of_ok hdec]
      by_cases hcmd : ∃ w, i = .wrCmd w
      · obtain ⟨w, rfl⟩ := hcmd
        cases hw : decodeCommand w with
        | error e => simp [rowOf_wrCmd_of_error hw, hw]
        | ok c' =>
          rw [rowOf_wrCmd_of_ok hw]
          simp only [hw, Option.some.injEq]
          exact ⟨fun h => h ▸ rfl, commandInstr_injective⟩
      · rw [rowOf_of_ne_wrCmd fun w hw => hcmd ⟨w, hw⟩]
        have hne := commandInstr_ne_of_decodeAccess hdec c
        constructor
        · intro h
          split at h
          · exact absurd ⟨_, Except.ok.inj ‹_›⟩ hcmd
          · cases h
        · intro h
          exact absurd (Option.some.inj h).symm hne

/-! ### The effect of an access -/

/-- The commands that change more than the bus response are accepted in these states (R162). -/
def Accepted (row : Option Instr) (x : State) : Prop :=
  match row with
  | some .config => Idle x ∧ x.life = .uninit
  | some (.enable _) => x.cfgBusy = false
  | some .readBlock | some .writeBlock => Idle x ∧ x.life ≠ .uninit
  | _ => False

/-- `y` is `x` with the bus response of an access that raised nothing or one ERR bit (R261). -/
def Responded (x y : State) : Prop :=
  (∃ d, y = answered d x) ∨ ∃ c d, y = recorded (BitVec.twoPow 10 (errBit c)) d x

/-- What an access that does the given row can make of the state `x`. -/
inductive Effect (x : State) : Option Instr → State → Prop
  /-- nothing but the bus response -/
  | respond {row y} (hy : Responded x y) (hrow : ¬ Accepted row x) : Effect x row y
  | clearErr (v d) : Effect x (some (.wrErr v)) { answered d x with err := clearWritten x.err v }
  | clearIrq (v d) : Effect x (some (.wrIrqPend v)) { answered d x with irqPend := clearWritten x.irqPend v }
  | irqEn (v d) : Effect x (some (.wrIrqEn v)) { answered d x with irqEn := v.setWidth 4 }
  | fixIn (v d) : Effect x (some (.wrCvtFixIn v)) { answered d x with cvtFixIn := v }
  | fltIn (v d) : Effect x (some (.wrCvtFltIn v)) { answered d x with cvtFltIn := v }
  | cfgRate (v d) (hu : unlocked x = true) : Effect x (some (.wrCfgRate v)) { answered d x with cfgRate := v }
  | cfgChan (v d) (hu : unlocked x = true) :
    Effect x (some (.wrCfgChan v)) { answered d x with cfgChan := v.setWidth 8 }
  | cfgBlock (v d) (hu : unlocked x = true) :
    Effect x (some (.wrCfgBlock v)) { answered d x with cfgBlock := v.setWidth 16 }
  | cfgBus (v d) (hu : unlocked x = true) :
    Effect x (some (.wrCfgBus v)) { answered d x with cfgBus := v.setWidth 8 }
  | cfgMode (v d) (hu : unlocked x = true) :
    Effect x (some (.wrCfgMode v)) { answered d x with cfgMaster := v.getLsbD 0 }
  | storeRaw {i v y} (hi : i < x.nActive.toNat) (hy : Responded x y) :
    Effect x (some (.wrWbuf i v)) { y with wbuf := writeWord x.wbuf (wordAddr i) v }
  | storeFloat {i v y} (hi : i < x.nActive.toNat) (hy : Responded x y) :
    Effect x (some (.wrWbufF i v)) { y with wbuf := writeWord x.wbuf (wordAddr i) (toFixed v) }
  | config (d) (h : Accepted (some .config) x) : Effect x (some .config) (startConfig (answered d x))
  | enable (p d) (h : Accepted (some (.enable p)) x) : Effect x (some (.enable p)) (setPower p (answered d x))
  | readBlock (d) (h : Accepted (some .readBlock) x) : Effect x (some .readBlock) (startRead (answered d x))
  | writeBlock (d) (h : Accepted (some .writeBlock) x) : Effect x (some .writeBlock) (startWrite (answered d x))

theorem responded_respondRead (d : Word) (x : State) : Responded x (respondRead d x) := .inl ⟨d, rfl⟩

theorem responded_respondWrite (x : State) : Responded x (respondWrite x) := .inl ⟨_, rfl⟩

theorem responded_refusedRead (c : ErrCause) (d : Word) (x : State) : Responded x (raiseError c (respondRead d x)) :=
  .inr ⟨c, d, rfl⟩

theorem responded_refusedWrite (c : ErrCause) (x : State) : Responded x (raiseError c (respondWrite x)) :=
  .inr ⟨c, _, rfl⟩

/-! ### The effect of each kind of row -/

theorem execConfig_effect (x : State) : ∃ u, execConfig x = .next u ∧ Effect x (some .config) u := by
  obtain ⟨hb, h⟩ | ⟨hb, hl, h⟩ | ⟨hb, hl, h⟩ := execConfig_cases x
  · exact ⟨_, h, .respond (responded_refusedWrite ..) fun ha => by simp [(busy_eq_false_iff x).mpr ha.1] at hb⟩
  · exact ⟨_, h, .config _ ⟨(busy_eq_false_iff x).mp hb, hl⟩⟩
  · exact ⟨_, h, .respond (responded_refusedWrite ..) fun ha => hl ha.2⟩

theorem execEnable_effect (p : Bool) (x : State) :
    ∃ u, execEnable p x = .next u ∧ Effect x (some (.enable p)) u := by
  obtain ⟨hb, h⟩ | ⟨hb, h⟩ := execEnable_cases p x
  · exact ⟨_, h, .respond (responded_refusedWrite ..) fun ha => by simp [hb, Accepted] at ha⟩
  · exact ⟨_, h, .enable p _ hb⟩

theorem execReadBlock_effect (x : State) : ∃ u, execReadBlock x = .next u ∧ Effect x (some .readBlock) u := by
  obtain ⟨hb, h⟩ | ⟨hb, hl, h⟩ | ⟨hb, hl, h⟩ := execReadBlock_cases x
  · exact ⟨_, h, .respond (responded_refusedWrite ..) fun ha => by simp [(busy_eq_false_iff x).mpr ha.1] at hb⟩
  · exact ⟨_, h, .respond (responded_refusedWrite ..) fun ha => ha.2 hl⟩
  · exact ⟨_, h, .readBlock _ ⟨(busy_eq_false_iff x).mp hb, hl⟩⟩

theorem execWriteBlock_effect (x : State) : ∃ u, execWriteBlock x = .next u ∧ Effect x (some .writeBlock) u := by
  obtain ⟨hb, h⟩ | ⟨hb, hl, h⟩ | ⟨hb, hl, h⟩ := execWriteBlock_cases x
  · exact ⟨_, h, .respond (responded_refusedWrite ..) fun ha => by simp [(busy_eq_false_iff x).mpr ha.1] at hb⟩
  · exact ⟨_, h, .respond (responded_refusedWrite ..) fun ha => ha.2 hl⟩
  · exact ⟨_, h, .writeBlock _ ⟨(busy_eq_false_iff x).mp hb, hl⟩⟩

/-- A configuration write stores while unlocked and is else refused. -/
theorem lockedWrite_effect {row : Instr} {f : State → State} {x : State} (hrow : ¬ Accepted (some row) x)
    (hf : unlocked x = true → Effect x (some row) (f (respondWrite x))) :
    ∃ u, lockedWrite f x = .next u ∧ Effect x (some row) u := by
  obtain ⟨hu, h⟩ | ⟨-, h⟩ := lockedWrite_cases f x
  · exact ⟨_, h, hf hu⟩
  · exact ⟨_, h, .respond (responded_refusedWrite ..) hrow⟩

theorem readRbufWindow_responded (view : Word → Word) (i : Nat) (x : State) :
    ∃ u, readRbufWindow view i x = .next u ∧ Responded x u := by
  obtain ⟨-, -, h⟩ | ⟨-, -, h⟩ | ⟨-, h⟩ := readRbufWindow_cases view i x
  · exact ⟨_, h, responded_respondRead ..⟩
  · exact ⟨_, h, responded_refusedRead ..⟩
  · exact ⟨_, h, responded_refusedRead ..⟩

theorem readWbufWindow_responded (view : Word → Word) (i : Nat) (x : State) :
    ∃ u, readWbufWindow view i x = .next u ∧ Responded x u := by
  obtain ⟨-, h⟩ | ⟨-, h⟩ := readWbufWindow_cases view i x
  · exact ⟨_, h, responded_respondRead ..⟩
  · exact ⟨_, h, responded_refusedRead ..⟩

/-- A write of a WBUF window stores in range and is else refused. -/
theorem writeWbufWindow_effect {row : Instr} {i : Nat} {v : Word} {x : State} (hrow : ¬ Accepted (some row) x)
    (hstore : i < x.nActive.toNat → ∀ y, Responded x y →
      Effect x (some row) { y with wbuf := writeWord x.wbuf (wordAddr i) v }) :
    ∃ u, writeWbufWindow i v x = .next u ∧ Effect x (some row) u := by
  obtain ⟨hi, -, h⟩ | ⟨hi, -, h⟩ | ⟨-, h⟩ := writeWbufWindow_cases i v x
  · exact ⟨_, h, hstore hi _ (responded_respondWrite x)⟩
  · exact ⟨_, h, hstore hi _ (responded_refusedWrite .hazWbuf x)⟩
  · exact ⟨_, h, .respond (responded_refusedWrite ..) hrow⟩

/-- The reads answer, or record the one error of a window. -/
theorem exec_read_responded {i : Instr} {k : Nat} (hi : i ∈ registerReads ++ windowReads k) (x : State) :
    ∃ u, exec i x = .next u ∧ Responded x u := by
  obtain hreg | hwin := List.mem_append.mp hi
  · fin_cases hreg <;> exact ⟨_, rfl, responded_respondRead _ x⟩
  · fin_cases hwin
    · exact readRbufWindow_responded id k x
    · exact readRbufWindow_responded toFloat k x
    · exact readWbufWindow_responded id k x
    · exact readWbufWindow_responded toFloat k x

/-- A write to a register with no writable field is refused (R46). -/
theorem exec_readOnlyWrite {i : Instr} {v : Word} (hi : i ∈ readOnlyWrites v) (x : State) :
    exec i x = refuseWrite .busRo x := by
  fin_cases hi <;> rfl

theorem effect_of_responded {o : Host.Outcome State Fault Refusal} {row : Option Instr} {x : State}
    (h : ∃ u, o = .next u ∧ Responded x u) (hrow : ¬ Accepted row x) : ∃ u, o = .next u ∧ Effect x row u := by
  obtain ⟨u, hu, hy⟩ := h
  exact ⟨u, hu, .respond hy hrow⟩

/-- Every instruction but WR.CMD has one of the effects of its row. -/
theorem exec_effect {i : Instr} (hi : ∀ w, i ≠ .wrCmd w) (x : State) :
    ∃ u, exec i x = .next u ∧ Effect x (some i) u := by
  cases i with
  | wrCmd w => exact absurd rfl (hi w)
  | nop => exact ⟨_, exec_nop x, .respond (responded_respondWrite x) id⟩
  | config => exact execConfig_effect x
  | enable p => exact execEnable_effect p x
  | readBlock => exact execReadBlock_effect x
  | writeBlock => exact execWriteBlock_effect x
  | wrErr v => exact ⟨_, rfl, .clearErr v _⟩
  | wrIrqPend v => exact ⟨_, rfl, .clearIrq v _⟩
  | wrIrqEn v => exact ⟨_, rfl, .irqEn v _⟩
  | wrCvtFixIn v => exact ⟨_, rfl, .fixIn v _⟩
  | wrCvtFltIn v => exact ⟨_, rfl, .fltIn v _⟩
  | wrCfgRate v => exact lockedWrite_effect id (.cfgRate v _)
  | wrCfgChan v => exact lockedWrite_effect id (.cfgChan v _)
  | wrCfgBlock v => exact lockedWrite_effect id (.cfgBlock v _)
  | wrCfgBus v => exact lockedWrite_effect id (.cfgBus v _)
  | wrCfgMode v => exact lockedWrite_effect id (.cfgMode v _)
  | wrWbuf k v => exact writeWbufWindow_effect id fun hk _ hy => .storeRaw hk hy
  | wrWbufF k v => exact writeWbufWindow_effect id fun hk _ hy => .storeFloat hk hy
  | wrStatus _ | wrMclkHz _ | wrNSamples _ | wrCfgErr _ | wrCfgSum _ | wrParams _ | wrParamTimeout _
  | wrParamSettle _ | wrRdStat _ | wrRptr _ | wrWrStat _ | wrWptr _ | wrParamMclkMult _ | wrCvtFltOut _
  | wrCvtFixOut _ | wrRbuf _ _ | wrRbufF _ _ => exact ⟨_, rfl, .respond (responded_refusedWrite .busRo x) id⟩
  | rdRbuf k | rdRbufF k | rdWbuf k | rdWbufF k =>
    exact effect_of_responded (exec_read_responded (k := k) (List.mem_append_right _ (by simp [windowReads])) x) id
  | _ => exact ⟨_, rfl, .respond (responded_respondRead _ x) id⟩

/-- Every instruction has one of the effects of the row that it does. -/
theorem exec_effect_rowOf (i : Instr) (x : State) : ∃ u, exec i x = .next u ∧ Effect x (rowOf i) u := by
  by_cases hcmd : ∃ w, i = .wrCmd w
  · obtain ⟨w, rfl⟩ := hcmd
    cases hw : decodeCommand w with
    | ok c =>
      rw [rowOf_wrCmd_of_ok hw, exec_wrCmd_of_ok hw]
      exact exec_effect (commandInstr_ne_wrCmd c) x
    | error e =>
      rw [rowOf_wrCmd_of_error hw, exec_wrCmd_of_error hw]
      exact ⟨_, refuseWrite_eq .cmdIllegal x, .respond (responded_refusedWrite ..) id⟩
  · have hne : ∀ w, i ≠ .wrCmd w := fun w hw => hcmd ⟨w, hw⟩
    rw [rowOf_of_ne_wrCmd hne]
    exact exec_effect hne x

theorem undecodedAccess_responded (c : ErrCause) (acc : Access) (x : State) :
    ∃ u, undecodedAccess c acc x = .next u ∧ Responded x u := by
  cases hw : acc.write
  · exact ⟨_, undecodedAccess_read c x hw, .inr ⟨c, _, rfl⟩⟩
  · exact ⟨_, undecodedAccess_write c x hw, .inr ⟨c, _, rfl⟩⟩

/-- An access that does not decode is refused. -/
theorem hostAccess_error {acc : Access} {e : DecodeError} (h : decodeAccess acc = .error e) (x : State) :
    ∃ u, hostAccess acc x = .next u ∧ Responded x u := by
  unfold hostAccess
  rw [h]
  cases e <;> exact undecodedAccess_responded _ acc x

/-- Every access has one of the effects of the row that it does. -/
theorem hostAccess_effect (acc : Access) (x : State) :
    ∃ u, hostAccess acc x = .next u ∧ Effect x (performedRow acc) u := by
  cases h : decodeAccess acc with
  | ok i => exact hostAccess_ok x h ▸ performedRow_of_ok h ▸ exec_effect_rowOf i x
  | error e => exact effect_of_responded (hostAccess_error h x) (performedRow_of_error h ▸ id)

/-- A read access leaves the bus response, and its row is no command's. -/
theorem hostAccess_read {acc : Access} (hread : acc.write = false) (x : State) :
    (∃ u, hostAccess acc x = .next u ∧ Responded x u) ∧ ∀ y, ¬ Accepted (performedRow acc) y := by
  cases h : decodeAccess acc with
  | error e => exact ⟨hostAccess_error h x, fun y => performedRow_of_error h ▸ id⟩
  | ok i =>
    obtain ⟨k, hi⟩ := mem_reads_of_decodeAccess hread h
    rw [hostAccess_ok x h, performedRow_of_ok h]
    refine ⟨exec_read_responded hi x, fun y => ?_⟩
    fin_cases hi <;> exact id

end Sys2Proof.Machine
end

section
/-! Proofs about the order of a cycle (spec/70_reset_and_hazards.md R293): the transfer's step does not depend on what a read or the
power line changes, so that every cycle with rst_n = 1 is an access's effect on the state after the transfer's step, then the
registered events and the stage. -/

namespace Sys2Proof.Machine

/-! ### The two halves of the transfer's step -/

/-- What the transfer's step does for a read. -/
def readStep (a : AgentIn) (s : State) : State := if s.rdBusy then endRead (rxHandshake a s) else s

/-- What the transfer's step does for a write. -/
def writeStep (a : AgentIn) (s : State) : State := if s.wrBusy then endWrite (txHandshake a s) else s

theorem transferStep_eq (a : AgentIn) (s : State) : transferStep a s = writeStep a (readStep a s) := rfl

/-- A read changes its own registers, TMR and RBUF only. -/
theorem readStep_frame (a : AgentIn) (s : State) :
    readStep a s =
      { s with
        rdBusy := (readStep a s).rdBusy, rdStat := (readStep a s).rdStat, rptr := (readStep a s).rptr
        tmr := (readStep a s).tmr, rbuf := (readStep a s).rbuf } := by
  unfold readStep
  split
  · obtain ⟨-, h⟩ | ⟨-, -, h⟩ | ⟨-, -, h⟩ := endRead_cases (rxHandshake a s)
    all_goals rw [h, rxHandshake_eq]
  · rfl

/-- A write changes its own registers and TMR only. -/
theorem writeStep_frame (a : AgentIn) (s : State) :
    writeStep a s =
      { s with
        wrBusy := (writeStep a s).wrBusy, wrStat := (writeStep a s).wrStat, wptr := (writeStep a s).wptr
        tmr := (writeStep a s).tmr } := by
  unfold writeStep
  split
  · obtain ⟨-, h⟩ | ⟨-, -, h⟩ | ⟨-, -, h⟩ := endWrite_cases (txHandshake a s)
    all_goals rw [h, txHandshake_eq]
  · rfl

/-- The transfer's step changes the registers of the two transfers, TMR and RBUF only. -/
theorem transferStep_frame (a : AgentIn) (s : State) :
    transferStep a s =
      { s with
        rdBusy := (transferStep a s).rdBusy, rdStat := (transferStep a s).rdStat, rptr := (transferStep a s).rptr
        wrBusy := (transferStep a s).wrBusy, wrStat := (transferStep a s).wrStat, wptr := (transferStep a s).wptr
        tmr := (transferStep a s).tmr, rbuf := (transferStep a s).rbuf } := by
  rw [transferStep_eq, writeStep_frame, readStep_frame]

@[simp] theorem transferStep_params (a : AgentIn) (s : State) : (transferStep a s).params = s.params := by
  rw [transferStep_frame]
@[simp] theorem transferStep_life (a : AgentIn) (s : State) : (transferStep a s).life = s.life := by
  rw [transferStep_frame]
@[simp] theorem transferStep_cfgBusy (a : AgentIn) (s : State) : (transferStep a s).cfgBusy = s.cfgBusy := by
  rw [transferStep_frame]
@[simp] theorem transferStep_pwr (a : AgentIn) (s : State) : (transferStep a s).pwr = s.pwr := by
  rw [transferStep_frame]
@[simp] theorem transferStep_mclkEn (a : AgentIn) (s : State) : (transferStep a s).mclkEn = s.mclkEn := by
  rw [transferStep_frame]
@[simp] theorem transferStep_err (a : AgentIn) (s : State) : (transferStep a s).err = s.err := by
  rw [transferStep_frame]
@[simp] theorem transferStep_irqPend (a : AgentIn) (s : State) : (transferStep a s).irqPend = s.irqPend := by
  rw [transferStep_frame]
@[simp] theorem transferStep_irqEn (a : AgentIn) (s : State) : (transferStep a s).irqEn = s.irqEn := by
  rw [transferStep_frame]
@[simp] theorem transferStep_cfgRate (a : AgentIn) (s : State) : (transferStep a s).cfgRate = s.cfgRate := by
  rw [transferStep_frame]
@[simp] theorem transferStep_cfgChan (a : AgentIn) (s : State) : (transferStep a s).cfgChan = s.cfgChan := by
  rw [transferStep_frame]
@[simp] theorem transferStep_cfgBlock (a : AgentIn) (s : State) : (transferStep a s).cfgBlock = s.cfgBlock := by
  rw [transferStep_frame]
@[simp] theorem transferStep_cfgBus (a : AgentIn) (s : State) : (transferStep a s).cfgBus = s.cfgBus := by
  rw [transferStep_frame]
@[simp] theorem transferStep_cfgMaster (a : AgentIn) (s : State) : (transferStep a s).cfgMaster = s.cfgMaster := by
  rw [transferStep_frame]
@[simp] theorem transferStep_mclkHz (a : AgentIn) (s : State) : (transferStep a s).mclkHz = s.mclkHz := by
  rw [transferStep_frame]
@[simp] theorem transferStep_nActive (a : AgentIn) (s : State) : (transferStep a s).nActive = s.nActive := by
  rw [transferStep_frame]
@[simp] theorem transferStep_cfgErr (a : AgentIn) (s : State) : (transferStep a s).cfgErr = s.cfgErr := by
  rw [transferStep_frame]
@[simp] theorem transferStep_cfgSum (a : AgentIn) (s : State) : (transferStep a s).cfgSum = s.cfgSum := by
  rw [transferStep_frame]
@[simp] theorem transferStep_cvtFixIn (a : AgentIn) (s : State) : (transferStep a s).cvtFixIn = s.cvtFixIn := by
  rw [transferStep_frame]
@[simp] theorem transferStep_cvtFltIn (a : AgentIn) (s : State) : (transferStep a s).cvtFltIn = s.cvtFltIn := by
  rw [transferStep_frame]
@[simp] theorem transferStep_cfgStage (a : AgentIn) (s : State) : (transferStep a s).cfgStage = s.cfgStage := by
  rw [transferStep_frame]
@[simp] theorem transferStep_req (a : AgentIn) (s : State) : (transferStep a s).req = s.req := by
  rw [transferStep_frame]
@[simp] theorem transferStep_wbuf (a : AgentIn) (s : State) : (transferStep a s).wbuf = s.wbuf := by
  rw [transferStep_frame]

/-! ### The transfer's step and what lies outside it -/

/-- `s` with the power line, STATE, ERR, IRQ_PEND and the bus response of `f`, which no transfer uses. -/
def withAside (f s : State) : State :=
  { s with
    pwr := f.pwr, life := f.life, err := f.err, irqPend := f.irqPend, busRdata := f.busRdata, busErr := f.busErr }

theorem rxHandshake_withAside (a : AgentIn) (f s : State) :
    rxHandshake a (withAside f s) = withAside f (rxHandshake a s) := by
  rw [rxHandshake_eq, rxHandshake_eq]
  rfl

theorem txHandshake_withAside (a : AgentIn) (f s : State) :
    txHandshake a (withAside f s) = withAside f (txHandshake a s) := by
  rw [txHandshake_eq, txHandshake_eq]
  rfl

theorem endRead_withAside (f s : State) : endRead (withAside f s) = withAside f (endRead s) := by
  simp only [endRead, apply_ite (withAside f)]
  rfl

theorem endWrite_withAside (f s : State) : endWrite (withAside f s) = withAside f (endWrite s) := by
  simp only [endWrite, apply_ite (withAside f)]
  rfl

/-- No transfer uses the power line, STATE, ERR, IRQ_PEND or the bus response. -/
theorem transferStep_withAside (a : AgentIn) (f s : State) :
    transferStep a (withAside f s) = withAside f (transferStep a s) := by
  have hread : readStep a (withAside f s) = withAside f (readStep a s) := by
    simp only [readStep, rxHandshake_withAside, endRead_withAside]
    exact (apply_ite (withAside f) _ _ _).symm
  rw [transferStep_eq, transferStep_eq, hread]
  simp only [writeStep, txHandshake_withAside, endWrite_withAside]
  exact (apply_ite (withAside f) _ _ _).symm

/-- Settles O37. -/
theorem transfersIndependentOfPower : Obligations.TransfersIndependentOfPower := by
  intro p l a s
  have h := transferStep_withAside a { s with pwr := p, life := l } s
  rw [transferStep_frame a s] at h ⊢
  exact h

/-! ### A cycle as the effect of an access -/

/-- The cycle that started in `s`, from the state `u` after the host's access: the events registered, the stage's step, the
close. -/
def finishCycle (a : AgentIn) (s u : State) : State :=
  closeCycle s (stageStep s.cfgStage a (registerEvents (transferEvents s (transferStep a s)) u))

theorem transferStep_answered (a : AgentIn) (d : Word) (s : State) :
    transferStep a (answered d s) = answered d (transferStep a s) := by
  have h := transferStep_withAside a (answered d s) s
  rw [transferStep_frame a s] at h ⊢
  exact h

theorem transferStep_recorded (a : AgentIn) (e : BitVec 10) (d : Word) (s : State) :
    transferStep a (recorded e d s) = recorded e d (transferStep a s) := by
  have h := transferStep_withAside a (recorded e d s) s
  rw [transferStep_frame a s] at h ⊢
  exact h

/-- A read before the transfer's step and its response after it give the same state. -/
theorem transferAndRegister_of_responded (a : AgentIn) {s y : State} (hy : Responded s y) :
    ∃ u, Responded (transferStep a s) u ∧
      transferAndRegister a y = registerEvents (transferEvents s (transferStep a s)) u := by
  obtain ⟨d, rfl⟩ | ⟨c, d, rfl⟩ := hy
  · refine ⟨_, .inl ⟨d, rfl⟩, ?_⟩
    rw [transferAndRegister, transferStep_answered]
    rfl
  · refine ⟨_, .inr ⟨c, d, rfl⟩, ?_⟩
    rw [transferAndRegister, transferStep_recorded]
    rfl

/-- A cycle without an access answers 0 on the bus. -/
theorem runCycle_quiet {h : BusIn} (a : AgentIn) (s : State) (hr : h.rstN = true) (hacc : h.access = none) :
    runCycle h a s = .next (finishCycle a s (answered 0#32 (transferStep a s))) := by
  rw [runCycle_live a s hr, hacc, cycleBody_quiet, andThen_next, finishCycle, transferAndRegister, idleBus,
    respondRead_eq_answered, transferStep_answered]
  rfl

/-- Every cycle with rst_n = 1 is the effect of the row presented on the state after the transfer's step, and the rest. -/
theorem runCycle_effect {h : BusIn} (a : AgentIn) (s : State) (hr : h.rstN = true) :
    ∃ u, runCycle h a s = .next (finishCycle a s u) ∧ Effect (transferStep a s) (presentedRow h) u := by
  cases hacc : h.access with
  | none => exact ⟨_, runCycle_quiet a s hr hacc, .respond (.inl ⟨_, rfl⟩) (by simp [presentedRow, hacc, Accepted])⟩
  | some acc =>
    have hrow : presentedRow h = performedRow acc := by simp [presentedRow, hacc]
    rw [runCycle_live a s hr, hacc, hrow]
    cases hw : acc.write
    · obtain ⟨⟨y, hy, hresp⟩, hnot⟩ := hostAccess_read hw s
      obtain ⟨u, hu, heq⟩ := transferAndRegister_of_responded a hresp
      refine ⟨u, ?_, .respond hu (hnot _)⟩
      rw [cycleBody_read a s hw, hy, andThen_next, andThen_next, heq, finishCycle]
    · obtain ⟨u, hu, heff⟩ := hostAccess_effect acc (transferStep a s)
      refine ⟨u, ?_, heff⟩
      rw [cycleBody_write a s hw, hu, andThen_next, andThen_next, finishCycle]

/-- The same for a cycle whose next state is known. -/
theorem effect_of_runCycle {h : BusIn} {a : AgentIn} {s t : State} (hr : h.rstN = true)
    (hrun : runCycle h a s = .next t) :
    ∃ u, t = finishCycle a s u ∧ Effect (transferStep a s) (presentedRow h) u := by
  obtain ⟨u, hu, heff⟩ := runCycle_effect a s hr
  exact ⟨u, Host.Outcome.next.inj (hrun.symm.trans hu), heff⟩

theorem eq_of_runCycle_quiet {h : BusIn} {a : AgentIn} {s t : State} (hr : h.rstN = true) (hacc : h.access = none)
    (hrun : runCycle h a s = .next t) : t = finishCycle a s (answered 0#32 (transferStep a s)) :=
  Host.Outcome.next.inj (hrun.symm.trans (runCycle_quiet a s hr hacc))

/-- Every cycle answers a next state, also a reset cycle. -/
theorem runCycle_next (h : BusIn) (a : AgentIn) (s : State) : ∃ t, runCycle h a s = .next t := by
  cases hr : h.rstN
  · exact ⟨_, runCycle_reset a s hr⟩
  · obtain ⟨u, hu, -⟩ := runCycle_effect a s hr
    exact ⟨_, hu⟩

/-- Settles O47: every row has an effect, and every cycle answers. -/
theorem blockNeverStops : Obligations.BlockNeverStops := by
  refine ⟨fun i s => ?_, fun s => runCycle_next _ _ s⟩
  obtain ⟨u, hu, -⟩ := exec_effect_rowOf i s
  exact ⟨u, hu⟩

/-- Settles O28: R293's order for a read and for a write. -/
theorem stepRunsTheDecodedInstruction : Obligations.StepRunsTheDecodedInstruction := by
  intro s acc i hbus hdec
  have hstep : step s = andThen (cycleBody (some acc) (agentsNow s) s) (closeCycle s) := by
    rw [step, runNextCycle, hbus, runCycle_live _ s rfl]
  refine ⟨fun hw => ?_, fun hw => ?_⟩
  · rw [hstep, cycleBody_read _ s hw, hostAccess_ok _ hdec]
    cases exec i s <;> rfl
  · rw [hstep, cycleBody_write _ s hw, hostAccess_ok _ hdec]
    cases exec i (transferStep (agentsNow s) s) <;> rfl

/-! ### The stage's step -/

/-- An external stage changes CFG_SUM, CFG_ERR, TMR, CFG_STAGE and REQ only. -/
theorem stageExternal_frame (e : Nat) (next : CfgStage) (a : AgentIn) (s : State) :
    stageExternal e next a s =
      { s with
        cfgSum := (stageExternal e next a s).cfgSum, cfgErr := (stageExternal e next a s).cfgErr
        tmr := (stageExternal e next a s).tmr, cfgStage := (stageExternal e next a s).cfgStage
        req := (stageExternal e next a s).req } := by
  obtain ⟨-, h⟩ | ⟨-, -, h⟩ | ⟨-, -, h⟩ := stageExternal_cases e next a s
  · rw [h, leaveExternal]
  · rw [h, leaveExternal]
  · rw [h]

/-- What the stages change of the state; no stage changes ERR, the bus response, the registers that the host writes but
CFG_BUS, or those of a transfer. -/
theorem stageStep_frame (c : CfgStage) (a : AgentIn) (s : State) :
    stageStep c a s =
      { s with
        cfgBus := (stageStep c a s).cfgBus, pwr := (stageStep c a s).pwr, mclkHz := (stageStep c a s).mclkHz
        mclkEn := (stageStep c a s).mclkEn, nActive := (stageStep c a s).nActive, life := (stageStep c a s).life
        cfgBusy := (stageStep c a s).cfgBusy, irqPend := (stageStep c a s).irqPend
        rbuf := (stageStep c a s).rbuf, wbuf := (stageStep c a s).wbuf
        cfgSum := (stageStep c a s).cfgSum, cfgErr := (stageStep c a s).cfgErr, tmr := (stageStep c a s).tmr
        cfgStage := (stageStep c a s).cfgStage, req := (stageStep c a s).req } := by
  cases c with
  | install | pins | rate | zero => simp only [stageStep]; rw [stageExternal_frame]
  | mclk => simp only [stageStep, stageMclk]; split <;> rfl
  | settle => simp only [stageStep, stageSettle]; split <;> rfl
  | finish => simp only [stageStep, stageFinish]; split <;> rfl
  | idle | validate | powerDown | clkRoute | alloc => rfl

@[simp] theorem stageStep_params (c : CfgStage) (a : AgentIn) (s : State) : (stageStep c a s).params = s.params := by
  rw [stageStep_frame]
@[simp] theorem stageStep_rdBusy (c : CfgStage) (a : AgentIn) (s : State) : (stageStep c a s).rdBusy = s.rdBusy := by
  rw [stageStep_frame]
@[simp] theorem stageStep_wrBusy (c : CfgStage) (a : AgentIn) (s : State) : (stageStep c a s).wrBusy = s.wrBusy := by
  rw [stageStep_frame]
@[simp] theorem stageStep_err (c : CfgStage) (a : AgentIn) (s : State) : (stageStep c a s).err = s.err := by
  rw [stageStep_frame]
@[simp] theorem stageStep_irqEn (c : CfgStage) (a : AgentIn) (s : State) : (stageStep c a s).irqEn = s.irqEn := by
  rw [stageStep_frame]
@[simp] theorem stageStep_cfgRate (c : CfgStage) (a : AgentIn) (s : State) : (stageStep c a s).cfgRate = s.cfgRate := by
  rw [stageStep_frame]
@[simp] theorem stageStep_cfgChan (c : CfgStage) (a : AgentIn) (s : State) : (stageStep c a s).cfgChan = s.cfgChan := by
  rw [stageStep_frame]
@[simp] theorem stageStep_cfgBlock (c : CfgStage) (a : AgentIn) (s : State) : (stageStep c a s).cfgBlock = s.cfgBlock := by
  rw [stageStep_frame]
@[simp] theorem stageStep_cfgMaster (c : CfgStage) (a : AgentIn) (s : State) : (stageStep c a s).cfgMaster = s.cfgMaster := by
  rw [stageStep_frame]
@[simp] theorem stageStep_rdStat (c : CfgStage) (a : AgentIn) (s : State) : (stageStep c a s).rdStat = s.rdStat := by
  rw [stageStep_frame]
@[simp] theorem stageStep_rptr (c : CfgStage) (a : AgentIn) (s : State) : (stageStep c a s).rptr = s.rptr := by
  rw [stageStep_frame]
@[simp] theorem stageStep_wrStat (c : CfgStage) (a : AgentIn) (s : State) : (stageStep c a s).wrStat = s.wrStat := by
  rw [stageStep_frame]
@[simp] theorem stageStep_wptr (c : CfgStage) (a : AgentIn) (s : State) : (stageStep c a s).wptr = s.wptr := by
  rw [stageStep_frame]
@[simp] theorem stageStep_cvtFixIn (c : CfgStage) (a : AgentIn) (s : State) : (stageStep c a s).cvtFixIn = s.cvtFixIn := by
  rw [stageStep_frame]
@[simp] theorem stageStep_cvtFltIn (c : CfgStage) (a : AgentIn) (s : State) : (stageStep c a s).cvtFltIn = s.cvtFltIn := by
  rw [stageStep_frame]
@[simp] theorem stageStep_busErr (c : CfgStage) (a : AgentIn) (s : State) : (stageStep c a s).busErr = s.busErr := by
  rw [stageStep_frame]

/-- Which stage alone changes each of the other registers (R182, R183, R184, R191, R193, R196). -/
structure StageKeeps (c : CfgStage) (s t : State) : Prop where
  cfgBus : c ≠ .validate → t.cfgBus = s.cfgBus
  pwr : c ≠ .powerDown → t.pwr = s.pwr
  mclkHz : c ≠ .mclk → t.mclkHz = s.mclkHz
  mclkEn : c ≠ .clkRoute → t.mclkEn = s.mclkEn
  rbuf : c ≠ .alloc → t.rbuf = s.rbuf
  wbuf : c ≠ .alloc → t.wbuf = s.wbuf
  nActive : c ≠ .finish → t.nActive = s.nActive
  life : c ≠ .finish → t.life = s.life
  irqPend : c ≠ .finish → t.irqPend = s.irqPend

theorem stageExternal_keeps (c : CfgStage) (e : Nat) (next : CfgStage) (a : AgentIn) (s : State) :
    StageKeeps c s (stageExternal e next a s) := by
  rw [stageExternal_frame]
  exact ⟨fun _ => rfl, fun _ => rfl, fun _ => rfl, fun _ => rfl, fun _ => rfl, fun _ => rfl, fun _ => rfl, fun _ => rfl,
    fun _ => rfl⟩

theorem stageStep_keeps (c : CfgStage) (a : AgentIn) (s : State) : StageKeeps c s (stageStep c a s) := by
  cases c with
  | install | pins | rate | zero => exact stageExternal_keeps ..
  | mclk => simp only [stageStep, stageMclk]; split <;> constructor <;> simp
  | settle => simp only [stageStep, stageSettle]; split <;> constructor <;> simp
  | finish => simp only [stageStep, stageFinish]; split <;> constructor <;> simp
  | idle | validate | powerDown | clkRoute | alloc => constructor <;> simp [stageStep, stageValidate, stageClkRoute]

theorem stageStep_idle (a : AgentIn) (s : State) : stageStep .idle a s = s := rfl

end Sys2Proof.Machine
end

section
/-! Proofs about who writes the buffers (spec/10_state.md R43): the transfer's step stores the word offered, the host's windows of
WBUF the word written, ALLOC clears both, and nothing else in a cycle writes them. -/

namespace Sys2Proof.Machine

/-! ### The steps of a cycle -/

/-- The transfer's step leaves RBUF or stores the word offered at RPTR (R229). -/
theorem transferStep_rbuf_cases (a : AgentIn) (s : State) :
    (transferStep a s).rbuf = s.rbuf ∨
      s.rdBusy = true ∧ a.rxValid = true ∧
        (transferStep a s).rbuf = writeWord s.rbuf (wordAddr s.rptr.toNat) a.rxData := by
  have hwrite : (transferStep a s).rbuf = (readStep a s).rbuf := by rw [transferStep_eq, writeStep_frame]
  have hend : (endRead (rxHandshake a s)).rbuf = (rxHandshake a s).rbuf := by
    obtain ⟨-, h⟩ | ⟨-, -, h⟩ | ⟨-, -, h⟩ := endRead_cases (rxHandshake a s)
    all_goals rw [h]
  rw [hwrite, readStep]
  cases hr : s.rdBusy
  · exact .inl rfl
  · rw [if_pos rfl, hend, rxHandshake_eq]
    cases hv : a.rxValid
    · exact .inl rfl
    · exact .inr ⟨rfl, rfl, rfl⟩

/-- The bus response changes no register but ERR and IRQ_PEND. -/
theorem Responded.frame {x y : State} (h : Responded x y) :
    y = { x with busRdata := y.busRdata, busErr := y.busErr, err := y.err, irqPend := y.irqPend } := by
  obtain ⟨d, rfl⟩ | ⟨c, d, rfl⟩ := h
  · rfl
  · rfl

/-- No host access writes RBUF (R244). -/
theorem Effect.rbuf {x u : State} {row : Option Instr} (h : Effect x row u) : u.rbuf = x.rbuf := by
  cases h with
  | respond hy => rw [hy.frame]
  | storeRaw _ hy | storeFloat _ hy => rw [hy.frame]
  | _ => rfl

/-- A host access writes WBUF by its two windows only, and in range only (R240, R245). -/
theorem Effect.wbuf {x u : State} {row : Option Instr} (h : Effect x row u) :
    u.wbuf = x.wbuf ∨
      ∃ i v, i < x.nActive.toNat ∧
        (row = some (.wrWbuf i v) ∧ u.wbuf = writeWord x.wbuf (wordAddr i) v ∨
          row = some (.wrWbufF i v) ∧ u.wbuf = writeWord x.wbuf (wordAddr i) (toFixed v)) := by
  cases h with
  | respond hy => exact .inl (by rw [hy.frame])
  | storeRaw hi => exact .inr ⟨_, _, hi, .inl ⟨rfl, rfl⟩⟩
  | storeFloat hi => exact .inr ⟨_, _, hi, .inr ⟨rfl, rfl⟩⟩
  | _ => exact .inl rfl

/-! ### The canonical form -/

theorem wf_transferStep_rbuf (a : AgentIn) {s : State} (h : Memory.wf s.rbuf = true) :
    Memory.wf (transferStep a s).rbuf = true := by
  obtain heq | ⟨-, -, heq⟩ := transferStep_rbuf_cases a s
  · rwa [heq]
  · exact heq ▸ wf_writeWord _ _ _ h

theorem Effect.wf_wbuf {x u : State} {row : Option Instr} (h : Effect x row u) (hx : Memory.wf x.wbuf = true) :
    Memory.wf u.wbuf = true := by
  obtain heq | ⟨i, v, -, ⟨-, heq⟩ | ⟨-, heq⟩⟩ := h.wbuf
  · rwa [heq]
  · exact heq ▸ wf_writeWord _ _ _ hx
  · exact heq ▸ wf_writeWord _ _ _ hx

theorem buffersCanonical_stageStep {c : CfgStage} {a : AgentIn} {u : State} (h : BuffersCanonical u) :
    BuffersCanonical (stageStep c a u) := by
  by_cases hc : c = .alloc
  · subst hc
    exact ⟨wf_zeroed, wf_zeroed⟩
  · obtain ⟨hr, hw⟩ := h
    have hkeep := stageStep_keeps c a u
    exact ⟨(hkeep.rbuf hc).symm ▸ hr, (hkeep.wbuf hc).symm ▸ hw⟩

theorem buffersCanonical_runCycle {h : BusIn} {a : AgentIn} {s t : State} (hs : BuffersCanonical s)
    (hrun : runCycle h a s = .next t) : BuffersCanonical t := by
  cases hr : h.rstN
  · rw [runCycle_reset a s hr] at hrun
    obtain rfl := Host.Outcome.next.inj hrun
    exact hs
  · obtain ⟨u, rfl, heff⟩ := effect_of_runCycle hr hrun
    have hrbuf : Memory.wf u.rbuf = true := heff.rbuf ▸ wf_transferStep_rbuf a hs.1
    have hwbuf : Memory.wf u.wbuf = true := heff.wf_wbuf (transferStep_wbuf a s ▸ hs.2)
    exact buffersCanonical_stageStep (u := registerEvents _ u) ⟨hrbuf, hwbuf⟩

/-- Settles O46: every writer of a buffer writes words, or clears it. -/
theorem buffersStayCanonical : Obligations.BuffersStayCanonical :=
  fun _ _ hs hstep => buffersCanonical_runCycle hs hstep

/-! ### The writers -/

theorem access_of_presentedRow {h : BusIn} {i : Instr} (hrow : presentedRow h = some i)
    (hi : ∀ c, commandInstr c ≠ i) : ∃ acc, h.access = some acc ∧ decodeAccess acc = .ok i := by
  obtain ⟨acc, hacc, hperf⟩ := Option.bind_eq_some_iff.mp hrow
  exact ⟨acc, hacc, decodeAccess_of_performedRow hperf hi⟩

theorem commandInstr_ne_wrWbuf (c : Command) (i : Nat) (v : Word) : commandInstr c ≠ .wrWbuf i v := by
  cases c <;> exact nofun

theorem commandInstr_ne_wrWbufF (c : Command) (i : Nat) (v : Word) : commandInstr c ≠ .wrWbufF i v := by
  cases c <;> exact nofun

/-- Settles O53: the writers are those of the transfer's step, of the host access and of the stage. -/
theorem bufferWritersAreTheListedOnes : Obligations.BufferWritersAreTheListedOnes := by
  intro h a s t hr hrun hstage
  obtain ⟨u, rfl, heff⟩ := effect_of_runCycle hr hrun
  have hkeep := stageStep_keeps s.cfgStage a (registerEvents (transferEvents s (transferStep a s)) u)
  have hrbuf : (finishCycle a s u).rbuf = (transferStep a s).rbuf := (hkeep.rbuf hstage).trans heff.rbuf
  have hwbuf : (finishCycle a s u).wbuf = u.wbuf := hkeep.wbuf hstage
  rw [hrbuf, hwbuf]
  refine ⟨transferStep_rbuf_cases a s, ?_⟩
  obtain heq | ⟨i, v, hi, ⟨hrow, heq⟩ | ⟨hrow, heq⟩⟩ := heff.wbuf
  · exact .inl (by rw [heq, transferStep_wbuf])
  · obtain ⟨acc, hacc, hdec⟩ := access_of_presentedRow hrow fun c => commandInstr_ne_wrWbuf c i v
    rw [transferStep_nActive] at hi
    rw [transferStep_wbuf] at heq
    exact .inr ⟨acc, i, v, hacc, hi, .inl ⟨hdec, heq⟩⟩
  · obtain ⟨acc, hacc, hdec⟩ := access_of_presentedRow hrow fun c => commandInstr_ne_wrWbufF c i v
    rw [transferStep_nActive] at hi
    rw [transferStep_wbuf] at heq
    exact .inr ⟨acc, i, v, hacc, hi, .inr ⟨hdec, heq⟩⟩

end Sys2Proof.Machine
end

section
/-! Proofs that every step of a cycle keeps the invariant of the block (spec/10_state.md R49): the transfer's step, the host's access,
the stage's step, and the reset. -/

namespace Sys2Proof.Machine

/-! ### The state outside the invariant -/

/-- The invariant says nothing of the bus, the ports, the converter inputs, ERR, the interrupt registers, the clock and the rest
of the configuration. -/
theorem Inv.frame {s t : State} (hs : Inv s)
    (h : t =
      { s with
        mclkEn := t.mclkEn, err := t.err, irqPend := t.irqPend, irqEn := t.irqEn, cfgRate := t.cfgRate
        cfgBus := t.cfgBus, cfgMaster := t.cfgMaster, mclkHz := t.mclkHz, cvtFixIn := t.cvtFixIn
        cvtFltIn := t.cvtFltIn, busRdata := t.busRdata, busErr := t.busErr, out := t.out, cycle := t.cycle
        host := t.host, agents := t.agents }) : Inv t := by
  rw [h]
  exact { hs with }

theorem Inv.of_responded {x y : State} (hx : Inv x) (h : Responded x y) : Inv y := by
  obtain ⟨d, rfl⟩ | ⟨c, d, rfl⟩ := h
  · exact hx.frame rfl
  · exact hx.frame rfl

/-! ### Consequences of a transfer in flight -/

theorem Inv.read_in_flight {s : State} (hs : Inv s) (hr : s.rdBusy = true) :
    s.cfgBusy = false ∧ s.wrBusy = false ∧ s.cfgStage = .idle ∧ s.life ≠ .uninit := by
  obtain ⟨hcr, -, hrw⟩ := hs.oneBusy
  have hcfg : s.cfgBusy = false := by simpa [hr] using hcr
  have hlife := hs.transferNeedsConfigured (by simp [hr])
  refine ⟨hcfg, by simpa [hr] using hrw, ?_, by rcases hlife with h | h <;> simp [h]⟩
  by_contra hstage
  exact absurd (hs.stageMatchesBusy.mp hstage) (by simp [hcfg])

theorem Inv.write_in_flight {s : State} (hs : Inv s) (hw : s.wrBusy = true) :
    s.cfgBusy = false ∧ s.rdBusy = false ∧ s.cfgStage = .idle ∧ s.life ≠ .uninit := by
  obtain ⟨-, hcw, hrw⟩ := hs.oneBusy
  have hcfg : s.cfgBusy = false := by simpa [hw] using hcw
  have hlife := hs.transferNeedsConfigured (by simp [hw])
  refine ⟨hcfg, by simpa [hw] using hrw, ?_, by rcases hlife with h | h <;> simp [h]⟩
  by_contra hstage
  exact absurd (hs.stageMatchesBusy.mp hstage) (by simp [hcfg])

/-- A CONFIG runs in UNINIT, with nothing of a block and no transfer. -/
theorem Inv.config_in_flight {s : State} (hs : Inv s) (hc : s.cfgBusy = true) :
    s.rdBusy = false ∧ s.wrBusy = false ∧ s.life = .uninit ∧ s.nActive = 0#15 := by
  obtain ⟨hcr, hcw, -⟩ := hs.oneBusy
  have hlife := hs.configInUninit hc
  exact ⟨by simpa [hc] using hcr, by simpa [hc] using hcw, hlife, hs.activeIffConfigured.mpr hlife⟩

/-- The block is at most as large as a buffer (R49). -/
theorem Inv.nActive_le {s : State} (hs : Inv s) : s.nActive.toNat ≤ s.params.maxSamples := by
  by_cases hlife : s.life = .uninit
  · simp [hs.activeIffConfigured.mpr hlife]
  · exact (hs.sizedBlock hlife).2.2.2

/-- TMR does not overflow below TIMEOUT_CYCLES. -/
theorem Inv.tmr_succ {s : State} (hs : Inv s) (h : s.tmr.toNat < s.params.timeout) :
    (s.tmr + 1#32).toNat = s.tmr.toNat + 1 := by
  obtain ⟨-, -, -, ⟨-, htimeout⟩, -⟩ := hs.legal
  rw [BitVec.toNat_add, BitVec.toNat_ofNat]
  omega

/-! ### The transfer's step, complete -/

/-- RPTR after the RX handshake (R229). -/
def nextRptr (a : AgentIn) (s : State) : Word := if a.rxValid then s.rptr + 1#32 else s.rptr

/-- RBUF after the RX handshake (R229). -/
def nextRbuf (a : AgentIn) (s : State) : Memory :=
  if a.rxValid then writeWord s.rbuf (wordAddr s.rptr.toNat) a.rxData else s.rbuf

/-- WPTR after the TX handshake (R233). -/
def nextWptr (a : AgentIn) (s : State) : Word := if a.txReady then s.wptr + 1#32 else s.wptr

/-- RD_STAT when a read ends: completed or timed out (R246). -/
def finalRdStat (complete perErr : Bool) : BitVec 5 :=
  if complete then (if perErr then 0x19#5 else 0x01#5) else (if perErr then 0x1F#5 else 0x17#5)

/-- WR_STAT when a write ends: completed, or timed out with some words moved or with none (R246). -/
def finalWrStat (complete moved perErr : Bool) : BitVec 6 :=
  if complete then (if perErr then 0x19#6 else 0x01#6)
  else if moved then (if perErr then 0x1F#6 else 0x07#6)
  else (if perErr then 0x3F#6 else 0x37#6)

/-- The cycle of a read ends it with the whole block, ends it by the timeout, or counts (R229, R230). -/
theorem transferStep_read_cases (a : AgentIn) {s : State} (hs : Inv s) (hr : s.rdBusy = true) :
    ((nextRptr a s).toNat = s.nActive.toNat ∧
      transferStep a s =
        { s with
          rbuf := nextRbuf a s, rptr := nextRptr a s, rdBusy := false, tmr := 0#32
          rdStat := finalRdStat true (s.rdStat.getLsbD 3 || a.rxErr) }) ∨
    ((nextRptr a s).toNat < s.nActive.toNat ∧ s.params.timeout ≤ s.tmr.toNat + 1 ∧
      transferStep a s =
        { s with
          rbuf := nextRbuf a s, rptr := nextRptr a s, rdBusy := false, tmr := 0#32
          rdStat := finalRdStat false (s.rdStat.getLsbD 3 || a.rxErr) }) ∨
    ((nextRptr a s).toNat < s.nActive.toNat ∧ s.tmr.toNat + 1 < s.params.timeout ∧
      transferStep a s =
        { s with
          rbuf := nextRbuf a s, rptr := nextRptr a s, tmr := s.tmr + 1#32
          rdStat := runningStat 5 (s.rdStat.getLsbD 3 || a.rxErr) }) := by
  obtain ⟨-, hw, -, -⟩ := hs.read_in_flight hr
  have htmr := hs.tmr_succ (hs.timerBounded.1 (by simp [hr]))
  have hle : (nextRptr a s).toNat ≤ s.nActive.toNat := advanced_pointer_le a.rxValid (hs.pointerBelowEnd.1 hr)
  have hstep : rxHandshake a s =
      { s with
        rbuf := nextRbuf a s, rptr := nextRptr a s, rdStat := runningStat 5 (s.rdStat.getLsbD 3 || a.rxErr) } := by
    rw [← rxHandshake_rdStat a (hs.statusShape.1 hr), rxHandshake_eq]
    rfl
  rw [transferStep_read a hr hw, hstep]
  obtain ⟨hptr, h⟩ | ⟨hptr, ht, h⟩ | ⟨hptr, ht, h⟩ := endRead_cases { s with
    rbuf := nextRbuf a s, rptr := nextRptr a s, rdStat := runningStat 5 (s.rdStat.getLsbD 3 || a.rxErr) }
  · exact .inl ⟨hptr, by rw [h, rdStatComplete_runningStat]; rfl⟩
  · exact .inr (.inl ⟨lt_of_le_of_ne hle hptr, htmr ▸ ht, by rw [h, rdStatTimeout_runningStat]; rfl⟩)
  · exact .inr (.inr ⟨lt_of_le_of_ne hle hptr, htmr ▸ ht, h⟩)

theorem wrStatTimeout_runningStat :
    ∀ zero perErr, wrStatTimeout (runningStat 6 perErr) zero = finalWrStat false (!zero) perErr := by decide

/-- The cycle of a write ends it with the whole block, ends it by the timeout, or counts (R233, R234). -/
theorem transferStep_write_cases (a : AgentIn) {s : State} (hs : Inv s) (hw : s.wrBusy = true) :
    ((nextWptr a s).toNat = s.nActive.toNat ∧
      transferStep a s =
        { s with
          wptr := nextWptr a s, wrBusy := false, tmr := 0#32
          wrStat := finalWrStat true true (s.wrStat.getLsbD 3 || a.txErr) }) ∨
    ((nextWptr a s).toNat < s.nActive.toNat ∧ s.params.timeout ≤ s.tmr.toNat + 1 ∧
      transferStep a s =
        { s with
          wptr := nextWptr a s, wrBusy := false, tmr := 0#32
          wrStat := finalWrStat false (!decide (nextWptr a s = 0#32)) (s.wrStat.getLsbD 3 || a.txErr) }) ∨
    ((nextWptr a s).toNat < s.nActive.toNat ∧ s.tmr.toNat + 1 < s.params.timeout ∧
      transferStep a s =
        { s with
          wptr := nextWptr a s, tmr := s.tmr + 1#32
          wrStat := runningStat 6 (s.wrStat.getLsbD 3 || a.txErr) }) := by
  obtain ⟨-, hr, -, -⟩ := hs.write_in_flight hw
  obtain ⟨-, -, hrunning, -⟩ := hs.statusShape
  have htmr := hs.tmr_succ (hs.timerBounded.1 (by simp [hw]))
  have hle : (nextWptr a s).toNat ≤ s.nActive.toNat := advanced_pointer_le a.txReady (hs.pointerBelowEnd.2 hw)
  have hstep : txHandshake a s =
      { s with wptr := nextWptr a s, wrStat := runningStat 6 (s.wrStat.getLsbD 3 || a.txErr) } := by
    rw [← txHandshake_wrStat a (hrunning hw), txHandshake_eq]
    rfl
  rw [transferStep_write a hr hw, hstep]
  obtain ⟨hptr, h⟩ | ⟨hptr, ht, h⟩ | ⟨hptr, ht, h⟩ := endWrite_cases { s with
    wptr := nextWptr a s, wrStat := runningStat 6 (s.wrStat.getLsbD 3 || a.txErr) }
  · exact .inl ⟨hptr, by rw [h, wrStatComplete_runningStat]; rfl⟩
  · exact .inr (.inl ⟨lt_of_le_of_ne hle hptr, htmr ▸ ht, by rw [h, wrStatTimeout_runningStat]⟩)
  · exact .inr (.inr ⟨lt_of_le_of_ne hle hptr, htmr ▸ ht, h⟩)

theorem finalRdStat_mem : ∀ complete perErr,
    finalRdStat complete perErr ∈ [0x00#5, 0x01#5, 0x19#5, 0x17#5, 0x1F#5] := by decide

theorem finalWrStat_mem : ∀ complete moved perErr,
    finalWrStat complete moved perErr ∈ [0x00#6, 0x01#6, 0x19#6, 0x07#6, 0x1F#6, 0x37#6, 0x3F#6] := by decide

/-! ### The transfer's step keeps the invariant -/

/-- The store of a word below N keeps RBUF canonical and within its words (R43). -/
theorem Inv.nextRbuf {s : State} (hs : Inv s) (a : AgentIn) (h : s.rptr.toNat < s.nActive.toNat) :
    Memory.wf (nextRbuf a s) = true ∧ ∀ c ∈ nextRbuf a s, c.1 < 4 * s.params.maxSamples := by
  have hle := hs.nActive_le
  unfold Machine.nextRbuf
  split
  · refine ⟨wf_writeWord _ _ _ hs.buffersCanonical.1, writeWord_below _ _ _ ?_ hs.buffersFit.1⟩
    simp only [wordAddr]
    omega
  · exact ⟨hs.buffersCanonical.1, hs.buffersFit.1⟩

/-- A read that has ended or goes on within its bounds keeps the invariant. -/
theorem Inv.read_progress {s t : State} (hs : Inv s) (hr : s.rdBusy = true)
    (ht : t = { s with rdBusy := t.rdBusy, rdStat := t.rdStat, rptr := t.rptr, tmr := t.tmr, rbuf := t.rbuf })
    (hptr : t.rptr.toNat ≤ s.nActive.toNat)
    (hgoes : t.rdBusy = true →
      t.rptr.toNat < s.nActive.toNat ∧ t.tmr.toNat < s.params.timeout ∧ t.rdStat ∈ [0x00#5, 0x08#5])
    (hends : t.rdBusy = false → t.rdStat ∈ [0x00#5, 0x01#5, 0x19#5, 0x17#5, 0x1F#5])
    (hwf : Memory.wf t.rbuf = true) (hfit : ∀ c ∈ t.rbuf, c.1 < 4 * s.params.maxSamples) : Inv t := by
  obtain ⟨hc, hw, hstage, -⟩ := hs.read_in_flight hr
  rw [ht]
  exact
    { hs with
      oneBusy := by simp [OneBusy, hc, hw]
      pointersInBlock := ⟨hptr, hs.pointersInBlock.2⟩
      transferNeedsConfigured := fun _ => hs.transferNeedsConfigured (by simp [hr])
      pointerBelowEnd := ⟨fun h => (hgoes h).1, hs.pointerBelowEnd.2⟩
      timerBounded := by
        refine ⟨fun h => ?_, by simp [hstage, isExternal], by simp [hstage]⟩
        exact (hgoes (by simpa [hw] using h)).2.1
      statusShape := ⟨fun h => (hgoes h).2.2, hends, hs.statusShape.2.2⟩
      buffersCanonical := ⟨hwf, hs.buffersCanonical.2⟩
      buffersFit := ⟨hfit, hs.buffersFit.2⟩ }

/-- A write that has ended or goes on within its bounds keeps the invariant. -/
theorem Inv.write_progress {s t : State} (hs : Inv s) (hw : s.wrBusy = true)
    (ht : t = { s with wrBusy := t.wrBusy, wrStat := t.wrStat, wptr := t.wptr, tmr := t.tmr })
    (hptr : t.wptr.toNat ≤ s.nActive.toNat)
    (hgoes : t.wrBusy = true →
      t.wptr.toNat < s.nActive.toNat ∧ t.tmr.toNat < s.params.timeout ∧ t.wrStat ∈ [0x00#6, 0x08#6])
    (hends : t.wrBusy = false → t.wrStat ∈ [0x00#6, 0x01#6, 0x19#6, 0x07#6, 0x1F#6, 0x37#6, 0x3F#6]) : Inv t := by
  obtain ⟨hc, hr, hstage, -⟩ := hs.write_in_flight hw
  obtain ⟨hrRuns, hrEnds, -, -⟩ := hs.statusShape
  rw [ht]
  exact
    { hs with
      oneBusy := by simp [OneBusy, hc, hr]
      pointersInBlock := ⟨hs.pointersInBlock.1, hptr⟩
      transferNeedsConfigured := fun _ => hs.transferNeedsConfigured (by simp [hw])
      pointerBelowEnd := ⟨hs.pointerBelowEnd.1, fun h => (hgoes h).1⟩
      timerBounded := by
        refine ⟨fun h => ?_, by simp [hstage, isExternal], by simp [hstage]⟩
        exact (hgoes (by simpa [hr] using h)).2.1
      statusShape := ⟨hrRuns, hrEnds, fun h => (hgoes h).2.2, hends⟩ }

theorem Inv.transferStep_read {s : State} (hs : Inv s) (a : AgentIn) (hr : s.rdBusy = true) :
    Inv (transferStep a s) := by
  obtain ⟨hwf, hfit⟩ := hs.nextRbuf a (hs.pointerBelowEnd.1 hr)
  have htmr := hs.tmr_succ (hs.timerBounded.1 (by simp [hr]))
  obtain ⟨hptr, h⟩ | ⟨hptr, -, h⟩ | ⟨hptr, ht, h⟩ := transferStep_read_cases a hs hr
  · exact h ▸ hs.read_progress hr rfl hptr.le nofun (fun _ => finalRdStat_mem true _) hwf hfit
  · exact h ▸ hs.read_progress hr rfl hptr.le nofun (fun _ => finalRdStat_mem false _) hwf hfit
  · refine h ▸ hs.read_progress hr rfl hptr.le (fun _ => ⟨hptr, htmr ▸ ht, runningStat_mem ..⟩) ?_ hwf hfit
    exact fun hends => absurd (hr.symm.trans hends) (by decide)

theorem Inv.transferStep_write {s : State} (hs : Inv s) (a : AgentIn) (hw : s.wrBusy = true) :
    Inv (transferStep a s) := by
  have htmr := hs.tmr_succ (hs.timerBounded.1 (by simp [hw]))
  obtain ⟨hptr, h⟩ | ⟨hptr, -, h⟩ | ⟨hptr, ht, h⟩ := transferStep_write_cases a hs hw
  · exact h ▸ hs.write_progress hw rfl hptr.le nofun (fun _ => finalWrStat_mem true true _)
  · exact h ▸ hs.write_progress hw rfl hptr.le nofun (fun _ => finalWrStat_mem false _ _)
  · refine h ▸ hs.write_progress hw rfl hptr.le (fun _ => ⟨hptr, htmr ▸ ht, runningStat_mem ..⟩) ?_
    exact fun hends => absurd (hw.symm.trans hends) (by decide)

theorem Inv.transferStep {s : State} (hs : Inv s) (a : AgentIn) : Inv (transferStep a s) := by
  cases hr : s.rdBusy
  · cases hw : s.wrBusy
    · exact (transferStep_idle a hr hw).symm ▸ hs
    · exact hs.transferStep_write a hw
  · exact hs.transferStep_read a hr

/-! ### The host access keeps the invariant -/

theorem Inv.stage_idle {x : State} (hx : Inv x) (hc : x.cfgBusy = false) : x.cfgStage = .idle := by
  by_contra hstage
  exact absurd (hx.stageMatchesBusy.mp hstage) (by simp [hc])

/-- An accepted CONFIG starts with nothing of a block and the power line as it is (R180). -/
theorem Inv.startConfig {x : State} (hx : Inv x) (ha : Accepted (some .config) x) : Inv (startConfig x) := by
  obtain ⟨⟨hc, hr, hw⟩, hlife⟩ := ha
  exact
    { hx with
      oneBusy := by simp [OneBusy, hr, hw]
      pointersInBlock := ⟨Nat.zero_le _, Nat.zero_le _⟩
      configInUninit := fun _ => hlife
      stageMatchesBusy := by simp [StageMatchesBusy]
      reqMatchesStage := hx.reqMatchesStage.trans (by rw [hx.stage_idle hc]; rfl)
      pointerBelowEnd := by simp [PointerBelowEnd, hr, hw]
      timerBounded := by simp [TimerBounded, hr, hw, isExternal]
      validateRecorded := by simp [ValidateRecorded, stageCode]
      poweredDownInConfig := by simp [PoweredDownInConfig, stageCode]
      configResult := by simp [ConfigResult]
      statusShape := by simp [StatusShape, hr, hw] }

theorem lifeAfterEnable_matches_power (p : Bool) (l : LifeState) :
    (lifeAfterEnable p l = .running → p = true) ∧ (lifeAfterEnable p l = .poweredOff → p = false) := by
  cases l <;> cases p <;> decide

/-- An accepted ENABLE moves STATE with the power line, outside a CONFIG (R210). -/
theorem Inv.setPower {x : State} (hx : Inv x) (p : Bool) (hc : x.cfgBusy = false) : Inv (setPower p x) := by
  have hstage := hx.stage_idle hc
  have hlife : lifeAfterEnable p x.life = .uninit ↔ x.life = .uninit := by
    cases x.life <;> cases p <;> simp [lifeAfterEnable]
  exact
    { hx with
      activeIffConfigured := hx.activeIffConfigured.trans hlife.symm
      sizedBlock := fun h => hx.sizedBlock fun hu => h (hlife.mpr hu)
      transferNeedsConfigured := fun h => by
        have hmoved := hx.transferNeedsConfigured h
        cases p <;> rcases hmoved with hl | hl <;> simp [hl, lifeAfterEnable]
      configInUninit := fun h => absurd h (by simp [hc])
      lifeMatchesPower := lifeAfterEnable_matches_power p x.life
      poweredDownInConfig := by simp [PoweredDownInConfig, hstage, stageCode]
      configResult := ⟨hx.configResult.1, fun h => hx.configResult.2 fun hu => h (hlife.mpr hu)⟩ }

/-- STATE after a transfer command follows the power line (R166). -/
theorem Inv.lifeAfterTransferCommand {x : State} (hx : Inv x) (hlife : x.life ≠ .uninit) :
    (lifeAfterTransferCommand x = .running ∧ x.pwr = true) ∨
      (lifeAfterTransferCommand x = .poweredOff ∧ x.pwr = false) := by
  obtain ⟨hon, hoff⟩ := hx.lifeMatchesPower
  cases hl : x.life with
  | uninit => exact absurd hl hlife
  | configured => cases hp : x.pwr <;> simp [Machine.lifeAfterTransferCommand, hl, hp]
  | running => simp [Machine.lifeAfterTransferCommand, hl, hon hl]
  | poweredOff => simp [Machine.lifeAfterTransferCommand, hl, hoff hl]

/-- N_ACTIVE is positive outside UNINIT. -/
theorem Inv.nActive_pos {x : State} (hx : Inv x) (hlife : x.life ≠ .uninit) : 0 < x.nActive.toNat :=
  Nat.pos_of_ne_zero fun h => hlife (hx.activeIffConfigured.mp (BitVec.eq_of_toNat_eq h))

/-- STATE may become RUNNING or POWERED_OFF by the power line where it was not UNINIT. -/
theorem Inv.move {x : State} (hx : Inv x) (hc : x.cfgBusy = false) (hlife : x.life ≠ .uninit) {l : LifeState}
    (hl : (l = .running ∧ x.pwr = true) ∨ (l = .poweredOff ∧ x.pwr = false)) : Inv { x with life := l } := by
  have hne : l ≠ .uninit := by rcases hl with ⟨rfl, -⟩ | ⟨rfl, -⟩ <;> decide
  exact
    { hx with
      activeIffConfigured := ⟨fun h => absurd (hx.activeIffConfigured.mp h) hlife, fun h => absurd h hne⟩
      sizedBlock := fun _ => hx.sizedBlock hlife
      transferNeedsConfigured := fun _ => hl.imp And.left And.left
      configInUninit := fun h => absurd h (by simp [hc])
      lifeMatchesPower := by rcases hl with ⟨rfl, hp⟩ | ⟨rfl, hp⟩ <;> simp [LifeMatchesPower, hp]
      configResult := ⟨hx.configResult.1, fun _ => hx.configResult.2 hlife⟩ }

theorem Inv.timeout_pos {x : State} (hx : Inv x) : 0 < x.params.timeout := hx.legal.2.2.2.1.1

/-- An accepted READ_BLOCK starts at pointer 0 of a block that is not empty (R220). -/
theorem Inv.startRead {x : State} (hx : Inv x) (ha : Accepted (some .readBlock) x) : Inv (startRead x) := by
  obtain ⟨⟨hc, hr, hw⟩, hlife⟩ := ha
  have hl := hx.lifeAfterTransferCommand hlife
  have hstage := hx.stage_idle hc
  exact
    { hx.move hc hlife hl with
      oneBusy := by simp [OneBusy, hc, hw]
      pointersInBlock := ⟨Nat.zero_le _, hx.pointersInBlock.2⟩
      transferNeedsConfigured := fun _ => hl.imp And.left And.left
      pointerBelowEnd := ⟨fun _ => hx.nActive_pos hlife, hx.pointerBelowEnd.2⟩
      timerBounded := ⟨fun _ => hx.timeout_pos, by simp [hstage, isExternal], by simp [hstage]⟩
      statusShape := ⟨by simp, by simp, hx.statusShape.2.2⟩ }

/-- An accepted WRITE_BLOCK starts at pointer 0 of a block that is not empty (R224). -/
theorem Inv.startWrite {x : State} (hx : Inv x) (ha : Accepted (some .writeBlock) x) : Inv (startWrite x) := by
  obtain ⟨⟨hc, hr, hw⟩, hlife⟩ := ha
  obtain ⟨hrRuns, hrEnds, -, -⟩ := hx.statusShape
  have hl := hx.lifeAfterTransferCommand hlife
  have hstage := hx.stage_idle hc
  exact
    { hx.move hc hlife hl with
      oneBusy := by simp [OneBusy, hc, hr]
      pointersInBlock := ⟨hx.pointersInBlock.1, Nat.zero_le _⟩
      transferNeedsConfigured := fun _ => hl.imp And.left And.left
      pointerBelowEnd := ⟨hx.pointerBelowEnd.1, fun _ => hx.nActive_pos hlife⟩
      timerBounded := ⟨fun _ => hx.timeout_pos, by simp [hstage, isExternal], by simp [hstage]⟩
      statusShape := ⟨hrRuns, hrEnds, by simp, by simp⟩ }

/-- The configuration may change while it is unlocked, since it counts outside UNINIT and in a CONFIG only (R21). -/
theorem Inv.configure {x : State} (hx : Inv x) (hu : unlocked x = true) (c : BitVec 8) (b : BitVec 16) :
    Inv { x with cfgChan := c, cfgBlock := b } := by
  obtain ⟨hlife, hc⟩ := (unlocked_iff x).mp hu
  exact
    { hx with
      sizedBlock := fun h => absurd hlife h
      validateRecorded := by simp [ValidateRecorded, hx.stage_idle hc, stageCode] }

/-- A store below N keeps WBUF canonical and within its words (R43). -/
theorem Inv.store {x : State} (hx : Inv x) {i : Nat} (hi : i < x.nActive.toNat) (v : Word) :
    Inv { x with wbuf := writeWord x.wbuf (wordAddr i) v } := by
  have hle := hx.nActive_le
  have hend : wordAddr i + 4 ≤ 4 * x.params.maxSamples := by simp only [wordAddr]; omega
  exact
    { hx with
      buffersCanonical := ⟨hx.buffersCanonical.1, wf_writeWord _ _ _ hx.buffersCanonical.2⟩
      buffersFit := ⟨hx.buffersFit.1, writeWord_below _ _ _ hend hx.buffersFit.2⟩ }

/-- No host access breaks the invariant. -/
theorem Effect.inv {x u : State} {row : Option Instr} (h : Effect x row u) (hx : Inv x) : Inv u := by
  have hanswered (d : Word) : Inv (answered d x) := hx.of_responded (.inl ⟨d, rfl⟩)
  cases h with
  | respond hy => exact hx.of_responded hy
  | cfgChan v d hu => exact (hanswered d).configure hu _ _
  | cfgBlock v d hu => exact (hanswered d).configure hu _ _
  | storeRaw hi hy | storeFloat hi hy =>
    have hstored := hx.of_responded hy
    obtain ⟨d, rfl⟩ | ⟨c, d, rfl⟩ := hy
    · exact hstored.store hi _
    · exact hstored.store hi _
  | config d ha => exact (hanswered d).startConfig ha
  | enable p d ha => exact (hanswered d).setPower p ha
  | readBlock d ha => exact (hanswered d).startRead ha
  | writeBlock d ha => exact (hanswered d).startWrite ha
  | _ => exact hx.frame rfl

/-! ### The bits of CFG_ERR -/

theorem setBit_getLsbD {n k : Nat} (x : BitVec n) (hk : k < n) (j : Nat) :
    (setBit x k).getLsbD j = (x.getLsbD j || decide (j = k)) := by
  simp only [setBit, BitVec.getLsbD_or, BitVec.getLsbD_twoPow]
  by_cases hj : j = k
  · simp [hj, hk]
  · simp [hj, Ne.symm hj]

/-- A word with a bit set is not 0. -/
theorem setBit_ne_zero {n k : Nat} (x : BitVec n) (hk : k < n) : setBit x k ≠ 0#n := by
  intro h
  have hbit := setBit_getLsbD x hk k
  simp [h] at hbit

/-! ### The stage's step keeps the invariant -/

/-- The error word `e` tells whether the layout and the size of `s` are legal (R182). -/
def Recorded (e : BitVec 8) (s : State) : Prop :=
  (e.getLsbD 0 = false → s.cfgChan = 2#8) ∧
  (e.getLsbD 1 = false → 1 ≤ s.cfgBlock.toNat ∧ s.cfgChan.toNat * s.cfgBlock.toNat ≤ s.params.maxSamples)

/-- The bits that the later stages set tell nothing of the layout and the size. -/
theorem Recorded.setBit {e : BitVec 8} {s : State} {k : Nat} (h : Recorded e s) (hk : 2 ≤ k ∧ k < 8) :
    Recorded (setBit e k) s := by
  unfold Recorded
  rw [setBit_getLsbD e hk.2, setBit_getLsbD e hk.2, decide_eq_false (by omega), decide_eq_false (by omega),
    Bool.or_false, Bool.or_false]
  exact h

theorem Inv.cfgBusy_of_stage {s : State} (hs : Inv s) (h : s.cfgStage ≠ .idle) : s.cfgBusy = true :=
  hs.stageMatchesBusy.mp h

/-- A stage of a CONFIG that goes on, within the bounds of the hidden state, keeps the invariant. -/
theorem Inv.stage_progress {s t : State} (hs : Inv s) (hc : s.cfgBusy = true)
    (ht : t =
      { s with
        cfgBus := t.cfgBus, pwr := t.pwr, mclkHz := t.mclkHz, mclkEn := t.mclkEn, rbuf := t.rbuf, wbuf := t.wbuf
        cfgSum := t.cfgSum, cfgErr := t.cfgErr, tmr := t.tmr, cfgStage := t.cfgStage, req := t.req })
    (hstage : t.cfgStage ≠ .idle) (hreq : t.req = isExternal t.cfgStage)
    (htmr : (isExternal t.cfgStage = true → t.tmr.toNat < s.params.timeout) ∧
      (t.cfgStage = .settle → t.tmr.toNat < s.params.settle))
    (hrecorded : Recorded t.cfgErr s) (hpower : PoweredDownInConfig t)
    (hsum : t.cfgErr = 0#8 → t.cfgSum = 0#32) (hcanonical : BuffersCanonical t) (hfit : BuffersFit t) : Inv t := by
  obtain ⟨hr, hw, hlife, -⟩ := hs.config_in_flight hc
  have hstage' : StageMatchesBusy t := by rw [ht]; exact iff_of_true hstage hc
  rw [ht] at hpower hcanonical hfit hstage' ⊢
  exact
    { hs with
      lifeMatchesPower := by simp [LifeMatchesPower, hlife]
      stageMatchesBusy := hstage'
      reqMatchesStage := hreq
      timerBounded := ⟨by simp [hr, hw], htmr⟩
      validateRecorded := fun _ => hrecorded
      poweredDownInConfig := hpower
      configResult := ⟨hsum, by simp [hlife]⟩
      buffersCanonical := hcanonical
      buffersFit := hfit }

/-- VALIDATE records the layout in bit 0 and the size in bit 1 (R182). -/
theorem stageValidate_cfgErr (s : State) (j : Nat) :
    (stageValidate s).cfgErr.getLsbD j =
      (s.cfgErr.getLsbD j || decide (j = 0 ∧ s.cfgChan ≠ 2#8) ||
        decide (j = 1 ∧ (s.cfgBlock.toNat = 0 ∨ s.cfgChan.toNat * s.cfgBlock.toNat > s.params.maxSamples))) := by
  have hlayout : s.cfgChan.toNat ≠ wireChannels ↔ s.cfgChan ≠ 2#8 := not_congr (@BitVec.toNat_inj 8 s.cfgChan 2#8)
  simp only [stageValidate, hlayout, cfgErrLayout, cfgErrSize]
  split_ifs with hsize hchan hchan
  · simp [setBit_getLsbD, hsize, hchan]
  · simp [setBit_getLsbD, hsize, hchan]
  · simp [setBit_getLsbD, hsize, hchan]
  · simp [hsize, hchan]

/-- VALIDATE only adds bits, so CFG_ERR = 0 after it means CFG_ERR = 0 before. -/
theorem stageValidate_cfgErr_zero {s : State} (h : (stageValidate s).cfgErr = 0#8) : s.cfgErr = 0#8 := by
  refine BitVec.eq_of_getLsbD_eq fun j _ => ?_
  have hbit := stageValidate_cfgErr s j
  rw [h] at hbit
  by_contra hne
  simp_all

theorem Inv.stageValidate {s : State} (hs : Inv s) (hstage : s.cfgStage = .validate) : Inv (stageValidate s) := by
  refine hs.stage_progress (hs.cfgBusy_of_stage (by simp [hstage])) rfl nofun ?_ ⟨nofun, nofun⟩ ?_ ?_ ?_
    hs.buffersCanonical hs.buffersFit
  · exact hs.reqMatchesStage.trans (by rw [hstage]; rfl)
  · refine ⟨fun hbit => ?_, fun hbit => ?_⟩
    · rw [stageValidate_cfgErr, Bool.or_eq_false_iff, Bool.or_eq_false_iff] at hbit
      simpa using hbit.1.2
    · rw [stageValidate_cfgErr, Bool.or_eq_false_iff] at hbit
      have hsize := of_decide_eq_false hbit.2
      simp only [true_and, not_or, not_lt, gt_iff_lt] at hsize
      exact ⟨Nat.pos_of_ne_zero hsize.1, hsize.2⟩
  · exact fun h => absurd h (by decide : ¬ 3 ≤ (stageCode .powerDown).toNat)
  · exact fun h => hs.configResult.1 (stageValidate_cfgErr_zero h)

theorem Inv.stagePowerDown {s : State} (hs : Inv s) (hstage : s.cfgStage = .powerDown) : Inv (stagePowerDown s) :=
  hs.stage_progress (hs.cfgBusy_of_stage (by simp [hstage])) rfl nofun
    (hs.reqMatchesStage.trans (by rw [hstage]; rfl)) ⟨nofun, nofun⟩ (hs.validateRecorded (by simp [hstage]))
    (fun _ => rfl) hs.configResult.1 hs.buffersCanonical hs.buffersFit

theorem Inv.stageMclk {s : State} (hs : Inv s) (hstage : s.cfgStage = .mclk) : Inv (stageMclk s) := by
  have hc := hs.cfgBusy_of_stage (by simp [hstage])
  have hrec : Recorded s.cfgErr s := hs.validateRecorded (by simp [hstage])
  have hpwr := hs.poweredDownInConfig (by rw [hstage]; decide)
  simp only [Machine.stageMclk]
  split
  · refine hs.stage_progress hc rfl nofun rfl ⟨fun _ => hs.timeout_pos, nofun⟩ ?_ (fun _ => hpwr) ?_
      hs.buffersCanonical hs.buffersFit
    · exact hrec.setBit (by decide)
    · exact fun h => absurd h (setBit_ne_zero _ (by decide))
  · exact hs.stage_progress hc rfl nofun rfl ⟨fun _ => hs.timeout_pos, nofun⟩ hrec (fun _ => hpwr)
      hs.configResult.1 hs.buffersCanonical hs.buffersFit

/-- An external stage sets only bits of CFG_ERR above VALIDATE's. -/
theorem Inv.stageExternal {s : State} (hs : Inv s) {e : Nat} {next : CfgStage} (a : AgentIn)
    (hext : isExternal s.cfgStage = true) (he : 2 ≤ e ∧ e < 8) (hnext : 4 ≤ (stageCode next).toNat)
    (hsettle : next ≠ .settle) : Inv (stageExternal e next a s) := by
  have hcode : 4 ≤ (stageCode s.cfgStage).toNat := by revert hext; cases s.cfgStage <;> decide
  have hc := hs.cfgBusy_of_stage (by rintro h; exact absurd hcode (by rw [h]; decide))
  have hrec : Recorded s.cfgErr s := hs.validateRecorded (.inl hcode)
  have hpwr := hs.poweredDownInConfig (by omega)
  have hne : next ≠ .idle := by rintro rfl; exact absurd hnext (by decide)
  have hstays : s.cfgStage ≠ .idle ∧ s.cfgStage ≠ .settle := by revert hext; cases s.cfgStage <;> decide
  obtain ⟨-, h⟩ | ⟨-, -, h⟩ | ⟨-, ht, h⟩ := stageExternal_cases e next a s
  · rw [h]
    refine hs.stage_progress hc rfl hne rfl ⟨fun _ => hs.timeout_pos, fun h => absurd h hsettle⟩ ?_ (fun _ => hpwr) ?_
      hs.buffersCanonical hs.buffersFit
    · by_cases hstatus : a.perStatus = 0#32
      · simpa [hstatus] using hrec
      · simpa [hstatus] using hrec.setBit he
    · intro herr
      by_cases hstatus : a.perStatus = 0#32
      · simpa [hstatus] using hs.configResult.1 (by simpa [hstatus] using herr)
      · exact absurd herr (by simpa [hstatus] using setBit_ne_zero s.cfgErr he.2)
  · rw [h]
    refine hs.stage_progress hc rfl hne rfl ⟨fun _ => hs.timeout_pos, fun h => absurd h hsettle⟩ ?_ (fun _ => hpwr) ?_
      hs.buffersCanonical hs.buffersFit
    · exact (hrec.setBit he).setBit (by decide)
    · exact fun herr => absurd herr (setBit_ne_zero _ (by decide))
  · rw [h]
    exact hs.stage_progress hc rfl hstays.1 hs.reqMatchesStage ⟨fun _ => ht, fun h => absurd h hstays.2⟩
      hrec (fun _ => hpwr) hs.configResult.1 hs.buffersCanonical hs.buffersFit

theorem Inv.stageClkRoute {s : State} (hs : Inv s) (hstage : s.cfgStage = .clkRoute) : Inv (stageClkRoute s) := by
  have hc := hs.cfgBusy_of_stage (by simp [hstage])
  have hrec : Recorded s.cfgErr s := hs.validateRecorded (by rw [hstage]; decide)
  have hpwr := hs.poweredDownInConfig (by rw [hstage]; decide)
  have hreq : s.req = false := hs.reqMatchesStage.trans (by rw [hstage]; rfl)
  by_cases hsettle : s.params.settle = 0
  · simp only [Machine.stageClkRoute, if_pos hsettle]
    exact hs.stage_progress hc rfl nofun hreq ⟨nofun, nofun⟩ hrec (fun _ => hpwr)
      hs.configResult.1 hs.buffersCanonical hs.buffersFit
  · simp only [Machine.stageClkRoute, if_neg hsettle]
    exact hs.stage_progress hc rfl nofun hreq ⟨nofun, fun _ => Nat.pos_of_ne_zero hsettle⟩ hrec
      (fun _ => hpwr) hs.configResult.1 hs.buffersCanonical hs.buffersFit

theorem Inv.stageSettle {s : State} (hs : Inv s) (hstage : s.cfgStage = .settle) : Inv (stageSettle s) := by
  have hc := hs.cfgBusy_of_stage (by simp [hstage])
  have hrec : Recorded s.cfgErr s := hs.validateRecorded (by rw [hstage]; decide)
  have hpwr := hs.poweredDownInConfig (by rw [hstage]; decide)
  have hreq : s.req = false := hs.reqMatchesStage.trans (by rw [hstage]; rfl)
  simp only [Machine.stageSettle]
  split
  · exact hs.stage_progress hc rfl nofun hreq ⟨nofun, nofun⟩ hrec (fun _ => hpwr)
      hs.configResult.1 hs.buffersCanonical hs.buffersFit
  next hgoes =>
    refine hs.stage_progress hc rfl (by simp [hstage]) hs.reqMatchesStage ⟨?_, fun _ => not_le.mp hgoes⟩
      hrec (fun _ => hpwr) hs.configResult.1 hs.buffersCanonical hs.buffersFit
    exact fun h => absurd h (by simp [hstage, isExternal])

theorem Inv.stageAlloc {s : State} (hs : Inv s) (hstage : s.cfgStage = .alloc) : Inv (stageAlloc s) :=
  hs.stage_progress (hs.cfgBusy_of_stage (by simp [hstage])) rfl nofun
    (hs.reqMatchesStage.trans (by rw [hstage]; rfl)) ⟨nofun, nofun⟩
    (hs.validateRecorded (by rw [hstage]; decide))
    (fun _ => hs.poweredDownInConfig (by rw [hstage]; decide)) hs.configResult.1
    ⟨wf_zeroed, wf_zeroed⟩ ⟨nofun, nofun⟩

/-- FINISH without an error has a legal block (R196). -/
theorem Inv.finished_block {s : State} (hs : Inv s) (hstage : s.cfgStage = .finish) (herr : s.cfgErr = 0#8) :
    s.cfgChan = 2#8 ∧ 1 ≤ s.cfgBlock.toNat ∧ s.cfgChan.toNat * s.cfgBlock.toNat ≤ s.params.maxSamples ∧
      (BitVec.ofNat 15 (s.cfgChan.toNat * s.cfgBlock.toNat)).toNat = s.cfgChan.toNat * s.cfgBlock.toNat := by
  obtain ⟨hlayout, hsize⟩ := hs.validateRecorded (by rw [hstage]; decide)
  obtain ⟨hblock, hfits⟩ := hsize (by simp [herr])
  obtain ⟨-, -, ⟨-, hmax⟩, -⟩ := hs.legal
  refine ⟨hlayout (by simp [herr]), hblock, hfits, ?_⟩
  rw [BitVec.toNat_ofNat]
  exact Nat.mod_eq_of_lt (by omega)

theorem Inv.stageFinish {s : State} (hs : Inv s) (hstage : s.cfgStage = .finish) : Inv (stageFinish s) := by
  have hc := hs.cfgBusy_of_stage (by simp [hstage])
  obtain ⟨hr, hw, hlife, hsize⟩ := hs.config_in_flight hc
  obtain ⟨hrptr, hwptr⟩ := hs.pointersInBlock
  have hreq : s.req = false := hs.reqMatchesStage.trans (by rw [hstage]; rfl)
  rw [hsize] at hrptr hwptr
  simp only [Machine.stageFinish]
  split
  next herr =>
    obtain ⟨hchan, hblock, hfits, hn⟩ := hs.finished_block hstage herr
    have hpos : 0 < s.cfgChan.toNat * s.cfgBlock.toNat := by
      rw [hchan]
      exact Nat.mul_pos (by decide) hblock
    exact
      { hs with
        oneBusy := by simp [OneBusy, hr, hw]
        activeIffConfigured := iff_of_false (fun h => hpos.ne' (hn.symm.trans (congrArg BitVec.toNat h))) nofun
        sizedBlock := fun _ => ⟨hchan, hblock, hn, hn.trans_le hfits⟩
        pointersInBlock := ⟨hrptr.trans (Nat.zero_le _), hwptr.trans (Nat.zero_le _)⟩
        transferNeedsConfigured := by simp [hr, hw]
        configInUninit := nofun
        lifeMatchesPower := ⟨nofun, nofun⟩
        stageMatchesBusy := by simp [StageMatchesBusy]
        reqMatchesStage := hreq
        pointerBelowEnd := by simp [PointerBelowEnd, hr, hw]
        timerBounded := by simp [TimerBounded, hr, hw, isExternal]
        validateRecorded := by simp [ValidateRecorded, stageCode]
        poweredDownInConfig := by simp [PoweredDownInConfig, stageCode]
        configResult := ⟨hs.configResult.1, fun _ => herr⟩ }
  · exact
      { hs with
        oneBusy := by simp [OneBusy, hr, hw]
        activeIffConfigured := iff_of_true rfl hlife
        sizedBlock := fun h => absurd hlife h
        pointersInBlock := ⟨hrptr, hwptr⟩
        configInUninit := nofun
        stageMatchesBusy := by simp [StageMatchesBusy]
        reqMatchesStage := hreq
        pointerBelowEnd := by simp [PointerBelowEnd, hr, hw]
        timerBounded := by simp [TimerBounded, hr, hw, isExternal]
        validateRecorded := by simp [ValidateRecorded, stageCode]
        poweredDownInConfig := by simp [PoweredDownInConfig, stageCode] }

/-- The step of the stage that CFG_STAGE holds keeps the invariant. -/
theorem Inv.stageStep {s : State} (hs : Inv s) (a : AgentIn) : Inv (stageStep s.cfgStage a s) := by
  cases hstage : s.cfgStage with
  | idle => exact hs
  | validate => exact hs.stageValidate hstage
  | powerDown => exact hs.stagePowerDown hstage
  | mclk => exact hs.stageMclk hstage
  | install | pins | rate | zero =>
    exact hs.stageExternal a (by rw [hstage]; rfl) (by decide) (by decide) (by decide)
  | clkRoute => exact hs.stageClkRoute hstage
  | settle => exact hs.stageSettle hstage
  | alloc => exact hs.stageAlloc hstage
  | finish => exact hs.stageFinish hstage

/-! ### The cycle -/

/-- An access moves CFG_STAGE only from IDLE (R180). -/
theorem Effect.cfgStage {x u : State} {row : Option Instr} (h : Effect x row u) (hx : Inv x) :
    x.cfgStage = .idle ∨ u.cfgStage = x.cfgStage := by
  cases h with
  | respond hy => exact .inr (by rw [hy.frame])
  | storeRaw _ hy | storeFloat _ hy => exact .inr (by rw [hy.frame])
  | config d ha => exact .inl (hx.stage_idle ha.1.1)
  | _ => exact .inr rfl

/-- What follows the access keeps the invariant. -/
theorem Inv.finishCycle {s u : State} {row : Option Instr} {a : AgentIn} (hs : Inv s)
    (heff : Effect (Machine.transferStep a s) row u) : Inv (finishCycle a s u) := by
  have hx := hs.transferStep a
  have hu : Inv (registerEvents (transferEvents s (Machine.transferStep a s)) u) := (heff.inv hx).frame rfl
  have hclosed : Inv (Machine.stageStep s.cfgStage a (registerEvents (transferEvents s (Machine.transferStep a s)) u)) := by
    obtain hidle | hsame := heff.cfgStage hx
    · rw [← transferStep_cfgStage a s, hidle]
      exact hu
    · rw [transferStep_cfgStage] at hsame
      exact hsame ▸ hu.stageStep a
  exact hclosed.frame rfl

/-- The reset values meet the invariant with any legal parameters and any buffers that do (R290, R291). -/
theorem inv_of_reset {p : Params} {r w : Memory} (hp : p.legal) (hcanonical : Memory.wf r = true ∧ Memory.wf w = true)
    (hfit : (∀ c ∈ r, c.1 < 4 * p.maxSamples) ∧ ∀ c ∈ w, c.1 < 4 * p.maxSamples) :
    Inv { State.reset with params := p, rbuf := r, wbuf := w } where
  legal := hp
  oneBusy := ⟨rfl, rfl, rfl⟩
  activeIffConfigured := iff_of_true rfl rfl
  sizedBlock h := absurd rfl h
  pointersInBlock := ⟨le_rfl, le_rfl⟩
  transferNeedsConfigured := nofun
  configInUninit := nofun
  lifeMatchesPower := ⟨nofun, nofun⟩
  stageMatchesBusy := iff_of_false (not_not_intro rfl) nofun
  reqMatchesStage := rfl
  pointerBelowEnd := ⟨nofun, nofun⟩
  timerBounded := ⟨nofun, nofun, nofun⟩
  validateRecorded := by simp [State.reset, stageCode]
  poweredDownInConfig := fun _ => rfl
  configResult := ⟨fun _ => rfl, fun _ => rfl⟩
  statusShape := ⟨nofun, fun _ => List.mem_cons_self, nofun, fun _ => List.mem_cons_self⟩
  buffersCanonical := hcanonical
  buffersFit := hfit

theorem Inv.runCycle {h : BusIn} {a : AgentIn} {s t : State} (hs : Inv s) (hrun : runCycle h a s = .next t) : Inv t := by
  cases hr : h.rstN
  · rw [runCycle_reset a s hr] at hrun
    obtain rfl := Host.Outcome.next.inj hrun
    exact (inv_of_reset hs.legal hs.buffersCanonical hs.buffersFit).frame rfl
  · obtain ⟨u, rfl, heff⟩ := effect_of_runCycle hr hrun
    exact hs.finishCycle heff

/-- Settles O44. -/
theorem invariantAtReset : Obligations.InvariantAtReset :=
  inv_of_reset (r := []) (w := []) params_legal ⟨rfl, rfl⟩ ⟨nofun, nofun⟩

/-- Settles O45: each step of a cycle keeps the invariant, and so does a reset. -/
theorem invariantKeptByEveryStep : Obligations.InvariantKeptByEveryStep :=
  fun _ _ hs hstep => hs.runCycle hstep

end Sys2Proof.Machine
end

section
/-! Proofs about the reads (spec/10_state.md sections 2 to 5, spec/40_converter.md section 3): the word that each read answers, and
what a read leaves unchanged (spec/20_memory.md R76). -/

namespace Sys2Proof.Machine

/-! ### The register reads -/

theorem cfgModeWord_eq (master : Bool) :
    cfgModeWord master = if master then 0x0F201801#32 else 0x0F201800#32 := by
  cases master <;> rfl

theorem exec_rdCfgMode (s : State) :
    exec .rdCfgMode s = .next (answered (if s.cfgMaster then 0x0F201801#32 else 0x0F201800#32) s) :=
  cfgModeWord_eq s.cfgMaster ▸ rfl

/-- Settles O7: each read is a reply of its register; CFG_MODE shows its fixed fields. -/
theorem registerReadsAnswerTheRegister : Obligations.RegisterReadsAnswerTheRegister := by
  intro s
  simp only [List.forall_mem_cons]
  exact ⟨rfl, rfl, rfl, rfl, rfl, rfl, rfl, rfl, exec_rdCfgMode s, rfl, rfl, rfl, rfl, rfl, rfl, rfl, rfl, rfl, rfl, nofun⟩

/-! ### STATUS and the parameters -/

/-- The interrupt line is the OR of the enabled pending bits (R262). -/
theorem irqLine_eq (s : State) :
    irqLine s =
      ((s.irqPend.getLsbD 0 && s.irqEn.getLsbD 0) || (s.irqPend.getLsbD 1 && s.irqEn.getLsbD 1) ||
        (s.irqPend.getLsbD 2 && s.irqEn.getLsbD 2) || (s.irqPend.getLsbD 3 && s.irqEn.getLsbD 3)) := by
  have hbits : ∀ p e : BitVec 4, decide (p &&& e ≠ 0#4) =
      ((p.getLsbD 0 && e.getLsbD 0) || (p.getLsbD 1 && e.getLsbD 1) || (p.getLsbD 2 && e.getLsbD 2) ||
        (p.getLsbD 3 && e.getLsbD 3)) := by decide
  exact hbits s.irqPend s.irqEn

/-- STATUS.STATE is the code of the lifecycle state. -/
theorem statusWord_state (s : State) : (statusWord s).extractLsb' 0 2 = lifeCode s.life := by
  ext k hk
  rw [BitVec.getElem_extractLsb', statusWord, BitVec.getLsbD_append]
  simp [hk]

/-- STATUS bits 31:8 are 0. -/
theorem statusWord_reserved (s : State) : (statusWord s).extractLsb' 8 24 = 0#24 := by
  ext k hk
  rw [BitVec.getElem_extractLsb', statusWord]
  iterate 7 rw [BitVec.getLsbD_append]
  simp [show ¬ 8 + k < 2 by omega, show ¬ 8 + k - 2 < 1 by omega, show ¬ 8 + k - 2 - 1 < 1 by omega,
    show ¬ 8 + k - 2 - 1 - 1 < 1 by omega, show ¬ 8 + k - 2 - 1 - 1 - 1 < 1 by omega,
    show ¬ 8 + k - 2 - 1 - 1 - 1 - 1 < 1 by omega, show ¬ 8 + k - 2 - 1 - 1 - 1 - 1 - 1 < 1 by omega]

theorem statusWord_getLsbD_three (s : State) : (statusWord s).getLsbD 3 = s.rdBusy := by
  rw [statusWord]
  iterate 3 rw [BitVec.getLsbD_append]
  simp

theorem statusWord_getLsbD_four (s : State) : (statusWord s).getLsbD 4 = s.wrBusy := by
  rw [statusWord]
  iterate 4 rw [BitVec.getLsbD_append]
  simp

theorem statusWord_getLsbD_six (s : State) : (statusWord s).getLsbD 6 = s.mclkEn := by
  rw [statusWord]
  iterate 6 rw [BitVec.getLsbD_append]
  simp

theorem statusWord_getLsbD_seven (s : State) : (statusWord s).getLsbD 7 = irqLine s := by
  rw [statusWord]
  iterate 7 rw [BitVec.getLsbD_append]
  simp

/-- Settles O8: the bits of the word that RD.STATUS replies. -/
theorem statusReadShowsItsFields : Obligations.StatusReadShowsItsFields := by
  intro s
  have hstate := statusWord_state s
  exact ⟨statusWord s, exec_rdStatus s, fun h => by rw [hstate, h]; rfl, fun h => by rw [hstate, h]; rfl,
    fun h => by rw [hstate, h]; rfl, fun h => by rw [hstate, h]; rfl, statusWord_getLsbD_two s,
    statusWord_getLsbD_three s, statusWord_getLsbD_four s, statusWord_getLsbD_five s, statusWord_getLsbD_six s,
    (statusWord_getLsbD_seven s).trans (irqLine_eq s), statusWord_reserved s⟩

/-- The fields of PARAMS (R37). -/
theorem paramsWord_fields (p : Params) :
    (paramsWord p).extractLsb' 0 16 = BitVec.ofNat 16 p.maxSamples ∧ (paramsWord p).extractLsb' 16 8 = 2#8 ∧
      (paramsWord p).extractLsb' 24 8 = BitVec.ofNat 8 (p.numBus - 1) := by
  refine ⟨?_, ?_, ?_⟩
  · ext k hk
    rw [BitVec.getElem_extractLsb', paramsWord, BitVec.getLsbD_append]
    simp [hk]
  · ext k hk
    rw [BitVec.getElem_extractLsb', paramsWord, BitVec.getLsbD_append, BitVec.getLsbD_append]
    simp [hk, wireChannels]
  · ext k hk
    rw [BitVec.getElem_extractLsb', paramsWord, BitVec.getLsbD_append, BitVec.getLsbD_append]
    simp [hk, show ¬ 24 + k < 16 by omega, show ¬ 24 + k - 16 < 8 by omega, show 24 + k - 16 - 8 = k by omega]

/-- Settles O9: legal parameters fit their fields. -/
theorem parameterReadsShowTheParameters : Obligations.ParameterReadsShowTheParameters := by
  intro s hlegal
  obtain ⟨hsamples, hchannels, hbus⟩ := paramsWord_fields s.params
  obtain ⟨-, hnum, hmax, htimeout, hsettle, hmult, -⟩ := hlegal
  refine ⟨⟨paramsWord s.params, rfl, ?_, hchannels, ?_⟩, ⟨_, rfl, ?_⟩, ⟨_, rfl, ?_⟩, ⟨_, rfl, ?_⟩⟩
  · rw [hsamples, BitVec.toNat_ofNat]
    omega
  · rw [hbus, BitVec.toNat_ofNat]
    omega
  · rw [BitVec.toNat_ofNat]
    omega
  · rw [BitVec.toNat_ofNat]
    omega
  · rw [BitVec.toNat_ofNat]
    omega

/-! ### The window reads -/

/-- Settles O11: the ways that the window reads answer. -/
theorem windowReadsAnswerTheWord : Obligations.WindowReadsAnswerTheWord := by
  intro i s
  have hrbuf (view : Word → Word) := readRbufWindow_cases view i s
  have hwbuf (view : Word → Word) := readWbufWindow_cases view i s
  refine ⟨fun hi hr => ?_, fun hi hr => ?_, fun hi => ?_, fun hi => ?_, fun hi => ?_⟩
  · simp only [hi, hr, not_le.mpr hi, true_and, false_and, or_false, Bool.false_eq_true, and_false] at hrbuf
    exact ⟨hrbuf id, hrbuf toFloat⟩
  · simp only [hi, hr, not_le.mpr hi, true_and, false_and, or_false, false_or, Bool.true_eq_false, and_false] at hrbuf
    exact ⟨hrbuf id, hrbuf toFloat⟩
  · simp only [not_lt.mpr hi, hi, true_and, false_and, false_or] at hrbuf
    exact ⟨hrbuf id, hrbuf toFloat⟩
  · simp only [hi, not_le.mpr hi, true_and, false_and, or_false] at hwbuf
    exact ⟨hwbuf id, hwbuf toFloat⟩
  · simp only [not_lt.mpr hi, hi, true_and, false_and, false_or] at hwbuf
    exact ⟨hwbuf id, hwbuf toFloat⟩

/-! ### The frame of the reads -/

theorem exec_registerRead {i : Instr} (hi : i ∈ registerReads) (s : State) : ∃ d, exec i s = .next (answered d s) := by
  fin_cases hi <;> exact ⟨_, rfl⟩

/-- A window read answers, or records BUS_RANGE or HAZ_RBUF. -/
theorem exec_windowRead {i : Instr} {k : Nat} (hi : i ∈ windowReads k) (s : State) :
    ∃ d, exec i s = .next (answered d s) ∨ exec i s = .next (recorded 0x080#10 d s) ∨
      exec i s = .next (recorded 0x100#10 d s) := by
  have hrbuf (view : Word → Word) : ∃ d, readRbufWindow view k s = .next (answered d s) ∨
      readRbufWindow view k s = .next (recorded 0x080#10 d s) ∨
      readRbufWindow view k s = .next (recorded 0x100#10 d s) := by
    obtain ⟨-, -, h⟩ | ⟨-, -, h⟩ | ⟨-, h⟩ := readRbufWindow_cases view k s
    · exact ⟨_, .inl h⟩
    · exact ⟨_, .inr (.inr h)⟩
    · exact ⟨_, .inr (.inl h)⟩
  have hwbuf (view : Word → Word) : ∃ d, readWbufWindow view k s = .next (answered d s) ∨
      readWbufWindow view k s = .next (recorded 0x080#10 d s) ∨
      readWbufWindow view k s = .next (recorded 0x100#10 d s) := by
    obtain ⟨-, h⟩ | ⟨-, h⟩ := readWbufWindow_cases view k s
    · exact ⟨_, .inl h⟩
    · exact ⟨_, .inr (.inl h)⟩
  fin_cases hi
  · exact hrbuf id
  · exact hrbuf toFloat
  · exact hwbuf id
  · exact hwbuf toFloat

theorem notMem_registerReads_of_windowRead {i : Instr} {k : Nat} (hi : i ∈ windowReads k) : i ∉ registerReads := by
  fin_cases hi <;> simp [registerReads]

/-- Settles O24: a register read answers, a window read answers or records one of two errors. -/
theorem readFrame : Obligations.ReadFrame := by
  intro k i s t hi hexec
  obtain hreg | hwin := List.mem_append.mp hi
  · obtain ⟨d, h⟩ := exec_registerRead hreg s
    obtain rfl := Host.Outcome.next.inj (hexec.symm.trans h)
    exact ⟨rfl, fun _ => ⟨rfl, rfl, rfl⟩, .inl ⟨rfl, rfl⟩, fun _ => ⟨rfl, rfl⟩⟩
  · have hnot := notMem_registerReads_of_windowRead hwin
    obtain ⟨d, h | h | h⟩ := exec_windowRead hwin s
    all_goals obtain rfl := Host.Outcome.next.inj (hexec.symm.trans h)
    · exact ⟨rfl, fun hreg => absurd hreg hnot, .inl ⟨rfl, rfl⟩, fun _ => ⟨rfl, rfl⟩⟩
    · exact ⟨rfl, fun hreg => absurd hreg hnot, .inr ⟨.inl rfl, rfl⟩, fun _ => ⟨rfl, rfl⟩⟩
    · exact ⟨rfl, fun hreg => absurd hreg hnot, .inr ⟨.inr rfl, rfl⟩, fun _ => ⟨rfl, rfl⟩⟩

end Sys2Proof.Machine
end

section
/-! Proofs about the writes and the commands (spec/10_state.md R21, R46, spec/41_control.md, spec/44_block_io.md section 5): what each
one does, and what it leaves unchanged. -/

namespace Sys2Proof.Machine

/-! ### The register writes -/

theorem exec_wrErr (v : Word) (s : State) :
    exec (.wrErr v) s = .next { answered (Config.freeBusRdata s.cycle) s with err := clearWritten s.err v } := rfl

theorem exec_wrIrqPend (v : Word) (s : State) :
    exec (.wrIrqPend v) s =
      .next { answered (Config.freeBusRdata s.cycle) s with irqPend := clearWritten s.irqPend v } := rfl

theorem exec_wrIrqEn (v : Word) (s : State) :
    exec (.wrIrqEn v) s = .next { answered (Config.freeBusRdata s.cycle) s with irqEn := v.setWidth 4 } := rfl

/-- A write-1-to-clear, bit by bit (R21). -/
theorem clearWritten_getLsbD {n : Nat} (x : BitVec n) (v : Word) {k : Nat} (hk : k < n) :
    (clearWritten x v).getLsbD k = (x.getLsbD k && !v.getLsbD k) := by
  simp [clearWritten, hk]

/-- A write with no writable field is refused with BUS_RO (R46, R244). -/
theorem exec_refusedRo {i : Nat} {v : Word} {j : Instr} (hj : j ∈ readOnlyWrites v ++ [.wrRbuf i v, .wrRbufF i v])
    (s : State) : exec j s = .next (recorded 0x020#10 (Config.freeBusRdata s.cycle) s) := by
  obtain hreg | hwin := List.mem_append.mp hj
  · rw [exec_readOnlyWrite hreg]
    rfl
  · fin_cases hwin <;> rfl

/-- Settles O12. -/
theorem readOnlyWritesRaiseBusRo : Obligations.ReadOnlyWritesRaiseBusRo :=
  fun _ _ s _ hj => ⟨_, exec_refusedRo hj s⟩

/-- Settles O13: the clears bit by bit. -/
theorem clearingAndStoringWrites : Obligations.ClearingAndStoringWrites := fun v s =>
  ⟨⟨_, _, exec_wrErr v s, fun _ hk => clearWritten_getLsbD s.err v hk⟩,
    ⟨_, _, exec_wrIrqPend v s, fun _ hk => clearWritten_getLsbD s.irqPend v hk⟩, ⟨_, exec_wrIrqEn v s⟩,
    ⟨_, exec_wrCvtFixIn v s⟩, ⟨_, exec_wrCvtFltIn v s⟩⟩

theorem lockedWrite_unlocked {s : State} (f : State → State) (hlife : s.life = .uninit) (hbusy : s.cfgBusy = false) :
    lockedWrite f s = .next (f (respondWrite s)) := by
  simp [lockedWrite, (unlocked_iff s).mpr ⟨hlife, hbusy⟩]

theorem lockedWrite_locked {s : State} (f : State → State) (h : s.life ≠ .uninit ∨ s.cfgBusy = true) :
    lockedWrite f s = .next (recorded 0x040#10 (Config.freeBusRdata s.cycle) s) := by
  have hlocked : unlocked s ≠ true := by
    rw [Ne, unlocked_iff]
    rintro ⟨hlife, hbusy⟩
    simp [hlife, hbusy] at h
  simp only [lockedWrite, if_neg hlocked]
  rfl

/-- Settles O14: the configuration writes are the locked writes. -/
theorem configWritesStoreOnlyWhileUnlocked : Obligations.ConfigWritesStoreOnlyWhileUnlocked := by
  intro v s
  refine ⟨fun hlife hbusy => ?_, fun h j hj => ⟨Config.freeBusRdata s.cycle, ?_⟩⟩
  · exact ⟨⟨_, lockedWrite_unlocked _ hlife hbusy⟩, ⟨_, lockedWrite_unlocked _ hlife hbusy⟩,
      ⟨_, lockedWrite_unlocked _ hlife hbusy⟩, ⟨_, lockedWrite_unlocked _ hlife hbusy⟩,
      ⟨_, lockedWrite_unlocked _ hlife hbusy⟩⟩
  · fin_cases hj <;> exact lockedWrite_locked _ h

/-! ### The window writes -/

theorem writeWbufWindow_free {i : Nat} {s : State} (v : Word) (hi : i < s.nActive.toNat) (hw : s.wrBusy = false) :
    writeWbufWindow i v s =
      .next { answered (Config.freeBusRdata s.cycle) s with wbuf := writeWord s.wbuf (4 * i) v } := by
  have h := writeWbufWindow_cases i v s
  simp only [hi, hw, not_le.mpr hi, true_and, false_and, or_false, Bool.false_eq_true] at h
  exact h

theorem writeWbufWindow_hazard {i : Nat} {s : State} (v : Word) (hi : i < s.nActive.toNat) (hw : s.wrBusy = true) :
    writeWbufWindow i v s =
      .next { recorded 0x200#10 (Config.freeBusRdata s.cycle) s with wbuf := writeWord s.wbuf (4 * i) v } := by
  have h := writeWbufWindow_cases i v s
  simp only [hi, hw, not_le.mpr hi, true_and, false_and, or_false, false_or, Bool.true_eq_false] at h
  exact h

theorem writeWbufWindow_out {i : Nat} {s : State} (v : Word) (hi : s.nActive.toNat ≤ i) :
    writeWbufWindow i v s = .next (recorded 0x080#10 (Config.freeBusRdata s.cycle) s) := by
  have h := writeWbufWindow_cases i v s
  simp only [hi, not_lt.mpr hi, true_and, false_and, false_or] at h
  exact h

/-- Settles O15: both windows of WBUF store a word at their index. -/
theorem wbufWritesStoreTheWord : Obligations.WbufWritesStoreTheWord := fun _ _ _ =>
  ⟨fun hi hw => ⟨⟨_, writeWbufWindow_free _ hi hw⟩, ⟨_, writeWbufWindow_free _ hi hw⟩⟩,
    fun hi hw => ⟨⟨_, writeWbufWindow_hazard _ hi hw⟩, ⟨_, writeWbufWindow_hazard _ hi hw⟩⟩,
    fun hi => ⟨⟨_, writeWbufWindow_out _ hi⟩, ⟨_, writeWbufWindow_out _ hi⟩⟩⟩

/-- What an in-range write of a WBUF window leaves: the word stored, the block as large as before. -/
theorem wbuf_of_writeWbufWindow {i : Nat} {v : Word} {s t : State} (hi : i < s.nActive.toNat)
    (h : writeWbufWindow i v s = .next t) : t.nActive = s.nActive ∧ t.wbuf = writeWord s.wbuf (4 * i) v := by
  cases hw : s.wrBusy
  · obtain rfl := Host.Outcome.next.inj (h.symm.trans (writeWbufWindow_free v hi hw))
    exact ⟨rfl, rfl⟩
  · obtain rfl := Host.Outcome.next.inj (h.symm.trans (writeWbufWindow_hazard v hi hw))
    exact ⟨rfl, rfl⟩

/-- The word stored is read back through both views, and the other words read as before. -/
theorem wbuf_readback {i : Nat} {v : Word} {s t : State} (hwf : Memory.wf s.wbuf = true) (hi : i < s.nActive.toNat)
    (h : writeWbufWindow i v s = .next t) :
    exec (.rdWbuf i) t = .next (answered v t) ∧ exec (.rdWbufF i) t = .next (answered (toFloat v) t) ∧
      ∀ j, j ≠ i → readWord t.wbuf (4 * j) = readWord s.wbuf (4 * j) := by
  obtain ⟨hn, hwbuf⟩ := wbuf_of_writeWbufWindow hi h
  obtain ⟨-, -, -, hread, -⟩ := windowReadsAnswerTheWord i t
  have hword : readWord t.wbuf (4 * i) = v := hwbuf ▸ readWord_writeWord_self s.wbuf (4 * i) v hwf
  obtain ⟨hraw, hfloat⟩ := hread (hn ▸ hi)
  refine ⟨hword ▸ hraw, hword ▸ hfloat, fun j hj => ?_⟩
  rw [hwbuf]
  exact readWord_writeWord_other s.wbuf v (wordAddr_disjoint hj)

/-- Settles O16: both windows of WBUF store a word, toFixed of the data in the float view. -/
theorem wbufWriteReadsBack : Obligations.WbufWriteReadsBack := fun _ _ _ _ hwf hi =>
  ⟨fun h => wbuf_readback hwf hi h, fun h => wbuf_readback hwf hi h⟩

/-! ### The accepted commands -/

theorem exec_config_accepted {s : State} (hidle : Idle s) (hlife : s.life = .uninit) :
    exec .config s = .next (startConfig (respondWrite s)) := by
  have hbusy := (busy_eq_false_iff s).mpr hidle
  simpa [hbusy, hlife, exec_config] using execConfig_cases s

theorem exec_enable_accepted {s : State} (p : Bool) (hcfg : s.cfgBusy = false) :
    exec (.enable p) s = .next (setPower p (respondWrite s)) := by
  simpa [hcfg, exec_enable] using execEnable_cases p s

theorem exec_readBlock_accepted {s : State} (hidle : Idle s) (hlife : s.life ≠ .uninit) :
    exec .readBlock s = .next (startRead (respondWrite s)) := by
  have hbusy := (busy_eq_false_iff s).mpr hidle
  simpa [hbusy, hlife, exec_readBlock] using execReadBlock_cases s

theorem exec_writeBlock_accepted {s : State} (hidle : Idle s) (hlife : s.life ≠ .uninit) :
    exec .writeBlock s = .next (startWrite (respondWrite s)) := by
  have hbusy := (busy_eq_false_iff s).mpr hidle
  simpa [hbusy, hlife, exec_writeBlock] using execWriteBlock_cases s

/-- Settles O20. -/
theorem configAcceptedStartsSequencer : Obligations.ConfigAcceptedStartsSequencer :=
  fun _ hidle hlife => ⟨_, exec_config_accepted hidle hlife⟩

/-- Settles O21: STATE moves by `lifeAfterEnable`. -/
theorem enableSetsPower : Obligations.EnableSetsPower := by
  intro p s hcfg
  refine ⟨_, _, exec_enable_accepted p hcfg, fun h => ?_, fun h => ?_, ?_, ?_⟩
  · simp [h, lifeAfterEnable]
  · simp [h, lifeAfterEnable]
  · rintro (h | h) rfl <;> simp [h, lifeAfterEnable]
  · rintro (h | h) rfl <;> simp [h, lifeAfterEnable]

/-- Settles O22: STATE moves by `lifeAfterTransferCommand`. -/
theorem transferCommandsAccepted : Obligations.TransferCommandsAccepted := by
  intro s hidle hlife
  refine ⟨lifeAfterTransferCommand s, fun h hp => ?_, fun h hp => ?_, fun h => ?_,
    ⟨_, exec_readBlock_accepted hidle hlife⟩, ⟨_, exec_writeBlock_accepted hidle hlife⟩⟩
  · simp [lifeAfterTransferCommand, h, hp]
  · simp [lifeAfterTransferCommand, h, hp]
  · simp [lifeAfterTransferCommand, h]

/-- Settles O18: the six legal words decode to their commands. -/
theorem cmdWriteDoesTheCommand : Obligations.CmdWriteDoesTheCommand := by
  obtain ⟨⟨hnop, hconfig, hoff, hon, hread, hwrite⟩, -⟩ := commandWordsAreTheSixLegalOnes
  refine ⟨fun w c s h => exec_wrCmd_of_ok h s, fun s => ⟨_, exec_wrCmd_of_ok hnop s⟩, fun s hidle hlife => ?_,
    fun s hcfg => ⟨?_, ?_⟩, fun s hidle hlife => ⟨?_, ?_⟩⟩
  · exact ⟨_, (exec_wrCmd_of_ok hconfig s).trans (exec_config_accepted hidle hlife)⟩
  · exact ⟨_, (exec_wrCmd_of_ok hoff s).trans (exec_enable_accepted false hcfg)⟩
  · exact ⟨_, (exec_wrCmd_of_ok hon s).trans (exec_enable_accepted true hcfg)⟩
  · exact ⟨_, (exec_wrCmd_of_ok hread s).trans (exec_readBlock_accepted hidle hlife)⟩
  · exact ⟨_, (exec_wrCmd_of_ok hwrite s).trans (exec_writeBlock_accepted hidle hlife)⟩

end Sys2Proof.Machine
end

section
/-! Proofs about the frames of the writes and the commands: the registers that each may change, and that no byte of a buffer
changes but by a window of WBUF (spec/10_state.md sections 1 and 7, spec/41_control.md section 1). -/

namespace Sys2Proof.Machine

theorem next_unique {o : Host.Outcome State Fault Refusal} {t u : State} (ht : o = .next t) (hu : o = .next u) : t = u :=
  Host.Outcome.next.inj (ht.symm.trans hu)

/-! ### The bytes of the buffers -/

/-- No row but the two windows of WBUF writes a buffer. -/
theorem buffers_of_exec {i : Instr} {s t : State} (hraw : ∀ k v, rowOf i ≠ some (.wrWbuf k v))
    (hfloat : ∀ k v, rowOf i ≠ some (.wrWbufF k v)) (h : exec i s = .next t) :
    t.rbuf = s.rbuf ∧ t.wbuf = s.wbuf := by
  obtain ⟨u, hu, heff⟩ := exec_effect_rowOf i s
  obtain rfl := next_unique h hu
  refine ⟨heff.rbuf, ?_⟩
  obtain heq | ⟨k, v, -, ⟨hrow, -⟩ | ⟨hrow, -⟩⟩ := heff.wbuf
  · exact heq
  · exact absurd hrow (hraw k v)
  · exact absurd hrow (hfloat k v)

theorem bytes_of_buffers {s t : State} (h : t.rbuf = s.rbuf ∧ t.wbuf = s.wbuf) (a : Nat) :
    readByte t.rbuf a = readByte s.rbuf a ∧ readByte t.wbuf a = readByte s.wbuf a := by
  rw [h.1, h.2]
  exact ⟨rfl, rfl⟩

/-! ### The register writes -/

theorem lockedWrite_out {f : State → State} {s t : State} (h : lockedWrite f s = .next t) :
    t = f (respondWrite s) ∨ t = raiseError .cfgLocked (respondWrite s) := by
  obtain ⟨-, h'⟩ | ⟨-, h'⟩ := lockedWrite_cases f s
  · exact .inl (next_unique h h')
  · exact .inr (next_unique h h')

/-- Settles O25: a register write is accepted or refused as a whole, and its row is no window's. -/
theorem registerWriteFrame : Obligations.RegisterWriteFrame := by
  intro v s t
  refine ⟨fun h => ?_, fun h => ?_, fun h => ?_, fun h => ?_, fun h => ?_, fun h => ?_, fun h => ?_, fun h => ?_,
    fun h => ?_, fun h => ?_, fun i hi h => ?_, fun i hi h => ?_⟩
  · obtain rfl := next_unique h (exec_wrErr v s); rfl
  · obtain rfl := next_unique h (exec_wrIrqPend v s); rfl
  · obtain rfl := next_unique h (exec_wrIrqEn v s); rfl
  · obtain rfl := next_unique h (exec_wrCvtFixIn v s); rfl
  · obtain rfl := next_unique h (exec_wrCvtFltIn v s); rfl
  · obtain rfl | rfl := lockedWrite_out h <;> rfl
  · obtain rfl | rfl := lockedWrite_out h <;> rfl
  · obtain rfl | rfl := lockedWrite_out h <;> rfl
  · obtain rfl | rfl := lockedWrite_out h <;> rfl
  · obtain rfl | rfl := lockedWrite_out h <;> rfl
  · obtain rfl := next_unique h (exec_readOnlyWrite hi s); rfl
  · refine bytes_of_buffers (buffers_of_exec ?_ ?_ h)
    · fin_cases hi <;> exact fun _ _ => nofun
    · fin_cases hi <;> exact fun _ _ => nofun

/-! ### The window writes -/

/-- A write of a WBUF window changes the bus response, ERR, IRQ_PEND and the four bytes of its index. -/
theorem writeWbufWindow_frame {i : Nat} {v : Word} {s t : State} (h : writeWbufWindow i v s = .next t) :
    t = { s with busRdata := t.busRdata, busErr := t.busErr, err := t.err, irqPend := t.irqPend, wbuf := t.wbuf } ∧
    (∀ a, a < wordAddr i ∨ wordAddr i + 4 ≤ a → readByte t.wbuf a = readByte s.wbuf a) ∧
    (∀ a, readByte t.rbuf a = readByte s.rbuf a) := by
  obtain ⟨-, -, h'⟩ | ⟨-, -, h'⟩ | ⟨-, h'⟩ := writeWbufWindow_cases i v s
  all_goals obtain rfl := next_unique h h'
  · exact ⟨rfl, fun _ ha => readByte_writeWord_other s.wbuf v ha, fun _ => rfl⟩
  · exact ⟨rfl, fun _ ha => readByte_writeWord_other s.wbuf v ha, fun _ => rfl⟩
  · exact ⟨rfl, fun _ _ => rfl, fun _ => rfl⟩

/-- Settles O26: the windows of WBUF store one word, those of RBUF are refused. -/
theorem windowWriteFrame : Obligations.WindowWriteFrame := by
  intro i v s t
  refine ⟨fun j hj h => ?_, fun j hj h => ?_⟩
  · fin_cases hj
    · exact writeWbufWindow_frame (v := v) h
    · exact writeWbufWindow_frame (v := toFixed v) h
  · obtain rfl := next_unique h (exec_refusedRo (List.mem_append_right _ hj) s)
    exact ⟨rfl, fun _ => ⟨rfl, rfl⟩⟩

/-! ### The commands -/

/-- What a CMD write may change. -/
def CommandChanges (s t : State) : Prop :=
  t = { s with
    busRdata := t.busRdata, busErr := t.busErr, err := t.err, irqPend := t.irqPend, cfgBusy := t.cfgBusy
    rdBusy := t.rdBusy, wrBusy := t.wrBusy, cfgStage := t.cfgStage, tmr := t.tmr, cfgErr := t.cfgErr
    cfgSum := t.cfgSum, rdStat := t.rdStat, rptr := t.rptr, wrStat := t.wrStat, wptr := t.wptr
    pwr := t.pwr, life := t.life }

/-- The row of a CMD write is a command's. -/
theorem command_of_rowOf_wrCmd {w : Word} {i : Instr} (h : rowOf (.wrCmd w) = some i) : ∃ c, commandInstr c = i := by
  cases hw : decodeCommand w with
  | ok c => exact ⟨c, Option.some.inj ((rowOf_wrCmd_of_ok hw).symm.trans h)⟩
  | error e => exact nomatch (rowOf_wrCmd_of_error hw).symm.trans h

/-- A CMD write changes no more than the commands do: the effects of its row are a response or a command's. -/
theorem exec_wrCmd_changes {w : Word} {s t : State} (h : exec (.wrCmd w) s = .next t) : CommandChanges s t := by
  obtain ⟨u, hu, heff⟩ := exec_effect_rowOf (.wrCmd w) s
  obtain rfl := next_unique h hu
  have hrow (i : Instr) : rowOf (.wrCmd w) = some i → ∃ c, commandInstr c = i := command_of_rowOf_wrCmd
  revert hrow
  generalize rowOf (.wrCmd w) = row at heff
  intro hrow
  cases heff with
  | respond hy =>
    obtain ⟨d, rfl⟩ | ⟨c, d, rfl⟩ := hy
    · rfl
    · rfl
  | config | enable | readBlock | writeBlock => rfl
  | _ =>
    obtain ⟨c, hc⟩ := hrow _ rfl
    cases c <;> cases hc

/-- Settles O27: each command is accepted with its effect or refused. -/
theorem commandFrame : Obligations.CommandFrame := by
  intro p w s t
  refine ⟨fun h => ?_, fun h => ?_, fun h => ?_, fun h => ?_, fun h => ?_, exec_wrCmd_changes, fun i hi h => ?_⟩
  · obtain rfl := next_unique h (exec_nop s); rfl
  · obtain ⟨-, h'⟩ | ⟨-, -, h'⟩ | ⟨-, -, h'⟩ := execConfig_cases s
    all_goals obtain rfl := next_unique h h'; rfl
  · obtain ⟨-, h'⟩ | ⟨-, h'⟩ := execEnable_cases p s
    all_goals obtain rfl := next_unique h h'; rfl
  · obtain ⟨-, h'⟩ | ⟨-, -, h'⟩ | ⟨-, -, h'⟩ := execReadBlock_cases s
    all_goals obtain rfl := next_unique h h'; rfl
  · obtain ⟨-, h'⟩ | ⟨-, -, h'⟩ | ⟨-, -, h'⟩ := execWriteBlock_cases s
    all_goals obtain rfl := next_unique h h'; rfl
  · have hrow : ∀ j, rowOf i = some j → ∃ c, commandInstr c = j := by
      fin_cases hi
      · exact fun j hj => ⟨.nop, Option.some.inj hj⟩
      · exact fun j hj => ⟨.config, Option.some.inj hj⟩
      · exact fun j hj => ⟨.enable p, Option.some.inj hj⟩
      · exact fun j hj => ⟨.readBlock, Option.some.inj hj⟩
      · exact fun j hj => ⟨.writeBlock, Option.some.inj hj⟩
      · exact fun j => command_of_rowOf_wrCmd
    refine bytes_of_buffers (buffers_of_exec (fun k v hk => ?_) (fun k v hk => ?_) h)
    · obtain ⟨c, hc⟩ := hrow _ hk
      exact commandInstr_ne_wrWbuf c k v hc
    · obtain ⟨c, hc⟩ := hrow _ hk
      exact commandInstr_ne_wrWbufF c k v hc

end Sys2Proof.Machine
end

section
/-! Proofs about the ports, the interrupt bits and the error bits of a cycle (spec/10_state.md R47, spec/60_exceptions.md R261,
spec/70_reset_and_hazards.md R290, R293), and about a cycle in which no agent is listened to. -/

namespace Sys2Proof.Machine

/-! ### The output ports -/

/-- With two channels the channel of a pointer is its parity (R236). -/
theorem channelPort_toNat {s : State} (ptr : Word) (hchan : s.cfgChan = 2#8) :
    (channelPort ptr s).toNat = ptr.toNat % 2 := by
  have htwo : (2#8).toNat = 2 := rfl
  rw [channelPort, hchan, htwo, channelOf, BitVec.toNat_ofNat]
  omega

/-- Settles O30: each port is its own function of the state. -/
theorem streamAndStatusPorts : Obligations.StreamAndStatusPorts := by
  intro s
  refine ⟨⟨rfl, rfl, rfl, rfl, rfl⟩, irqLine_eq s, fun hw => ?_, fun hw => ?_, fun hr => ?_, fun hchan =>
    ⟨fun hr => ?_, fun hw => ?_⟩⟩
  · simp only [outputs, hw, if_true]
    rfl
  · simp [outputs, hw]
  · simp [outputs, hr]
  · simpa [outputs, hr] using channelPort_toNat s.rptr hchan
  · simpa [outputs, hw] using channelPort_toNat s.wptr hchan

/-- INSTALL's argument by its fields (R186). -/
theorem installArg_eq : ∀ (busId : BitVec 8) (master : Bool),
    installArg busId master = busId.setWidth 32 ||| (if master then 0x00000100#32 else 0#32) ||| 0x20181E00#32 := by
  decide

theorem isExternal_iff (c : CfgStage) : isExternal c = true ↔ c ∈ [.install, .pins, .rate, .zero] := by
  cases c <;> decide

/-- Settles O31: the request is outstanding exactly in the external stages. -/
theorem configurationPortOutputs : Obligations.ConfigurationPortOutputs := by
  intro s hs
  have hreq : s.req = isExternal s.cfgStage := hs.reqMatchesStage
  refine ⟨?_, fun h => ?_, fun h => ?_, fun h => ?_, fun h => ?_, fun h => ?_⟩
  · rw [← isExternal_iff, ← hreq]
    rfl
  · rw [← installArg_eq]
    simp [outputs, hreq, h, isExternal, perStageOf, perArgOf]
  · simp [outputs, hreq, h, isExternal, perStageOf, perArgOf]
  · simp [outputs, hreq, h, isExternal, perStageOf, perArgOf]
  · simp [outputs, hreq, h, isExternal, perStageOf, perArgOf]
  · rw [← isExternal_iff, ← hreq] at h
    simp [outputs, h]

/-- The ports of the cycle after a reset (R48). -/
theorem outputs_resetCycle (access : Option Access) (s : State) :
    outputs (closeCycle s (resetCycle access s)) = PortsOut.reset := by
  simp [outputs, irqLine, PortsOut.reset, resetCycle, State.reset]

/-- STATUS reads 0 after a reset (R290). -/
theorem statusWord_resetCycle (access : Option Access) (s : State) :
    statusWord (closeCycle s (resetCycle access s)) = 0#32 := by
  simp [statusWord, irqLine, resetCycle, State.reset, lifeCode]

/-- Settles O29: the values of a reset cycle, which the close of the cycle leaves but for the record of the ports. -/
theorem resetGivesResetValues : Obligations.ResetGivesResetValues := by
  refine ⟨fun h a s hr => ⟨_, runCycle_reset a s hr, ?_⟩, ?_, ?_, ?_, rfl⟩
  · exact ⟨⟨rfl, rfl, rfl, rfl, rfl, rfl, rfl, rfl, rfl⟩, ⟨rfl, rfl, rfl, rfl, exec_rdCfgMode _⟩,
      ⟨rfl, rfl, rfl, rfl, rfl, rfl, rfl, rfl, rfl, rfl, rfl, rfl, rfl⟩,
      ⟨statusWord_resetCycle h.access s ▸ exec_rdStatus _, rfl, rfl, resetRdata_eq_zero s⟩, rfl, outputs_resetCycle h.access s⟩
  · exact ⟨rfl, rfl, rfl, rfl, rfl, rfl⟩
  · exact ⟨rfl, rfl, rfl, rfl, rfl, rfl, rfl, rfl⟩
  · exact ⟨rfl, rfl, rfl, rfl, rfl, rfl, rfl, rfl, rfl, rfl, rfl, rfl, rfl⟩

/-! ### The interrupt bits of a cycle -/

theorem putBit_getLsbD {n k : Nat} (x : BitVec n) (b : Bool) (hk : k < n) (j : Nat) :
    (putBit x k b).getLsbD j = if j = k then b else x.getLsbD j := by
  cases b
  · simp only [putBit, Bool.false_eq_true, if_false, BitVec.getLsbD_and, BitVec.getLsbD_not, BitVec.getLsbD_twoPow]
    by_cases hj : j = k
    · simp [hj, hk]
    · have hlt : x.getLsbD j = true → j < n := BitVec.lt_of_getLsbD
      cases hx : x.getLsbD j <;> simp_all [Ne.symm hj]
  · simp only [putBit, if_true, setBit_getLsbD x hk]
    by_cases hj : j = k <;> simp [hj]

/-- The events of the transfers are the falls of their busy bits (R230, R234). -/
theorem transferEvents_getLsbD (s x : State) (j : Nat) :
    (transferEvents s x).getLsbD j =
      ((decide (j = 1) && (s.rdBusy && !x.rdBusy)) || (decide (j = 2) && (s.wrBusy && !x.wrBusy))) := by
  rw [transferEvents, putBit_getLsbD _ _ (by decide), putBit_getLsbD _ _ (by decide)]
  simp only [irqRdDone, irqWrDone]
  by_cases h2 : j = 2
  · simp [h2]
  · by_cases h1 : j = 1 <;> simp [h1, h2]

/-- Only FINISH raises an interrupt of the CONFIG (R196). -/
theorem stageStep_irqPend (c : CfgStage) (a : AgentIn) (s : State) :
    (stageStep c a s).irqPend = if c = .finish then setBit s.irqPend irqCfgDone else s.irqPend := by
  split
  next h =>
    simp only [h, stageStep, stageFinish]
    split <;> rfl
  next h => exact (stageStep_keeps c a s).irqPend h

/-- IRQ_PEND at the end of a cycle: what the access left, the ends of transfers and the end of a CONFIG (R293). -/
theorem finishCycle_irqPend (a : AgentIn) (s u : State) (j : Nat) :
    (finishCycle a s u).irqPend.getLsbD j =
      (u.irqPend.getLsbD j || (decide (j = 1) && (s.rdBusy && !(transferStep a s).rdBusy)) ||
        (decide (j = 2) && (s.wrBusy && !(transferStep a s).wrBusy)) ||
        (decide (j = 0) && decide (s.cfgStage = .finish))) := by
  simp only [finishCycle, closeCycle_irqPend, stageStep_irqPend]
  split
  next h =>
    rw [setBit_getLsbD _ (by decide), registerEvents_irqPend, BitVec.getLsbD_or, transferEvents_getLsbD]
    simp only [h, decide_true, Bool.and_true, Bool.or_assoc]
    rfl
  next h =>
    rw [registerEvents_irqPend, BitVec.getLsbD_or, transferEvents_getLsbD]
    simp [h, Bool.or_assoc]

theorem decodeAccess_wrIrqPend (v : Word) : decodeAccess (wr32 0x0000C#20 v) = .ok (.wrIrqPend v) := by
  have hkey : keyOf true 0x0000C#20 = 0x10000C#21 := by decide
  simp only [decodeAccess, wr32, if_true, hkey]
  exact decodeEncodeRoundTrip (.wrIrqPend v) rfl

/-- A cycle with a write of IRQ_PEND ends what the clear left. -/
theorem runCycle_wrIrqPend (v : Word) (a : AgentIn) (s : State) :
    ∃ u, runCycle { rstN := true, access := some (wr32 0x0000C#20 v) } a s = .next (finishCycle a s u) ∧
      u.irqPend = clearWritten s.irqPend v := by
  rw [runCycle_live a s rfl, cycleBody_write a s rfl, hostAccess_ok _ (decodeAccess_wrIrqPend v), exec_wrIrqPend,
    transferStep_irqPend]
  exact ⟨_, rfl, rfl⟩

/-- Settles O52: the clear comes before the events of the cycle. -/
theorem setWinsOverClear : Obligations.SetWinsOverClear := by
  intro v a s t hs hrun
  obtain ⟨u, hu, hclear⟩ := runCycle_wrIrqPend v a s
  obtain rfl := next_unique hrun hu
  have hbit (j : Nat) (hj : j < 4) : u.irqPend.getLsbD j = (s.irqPend.getLsbD j && !v.getLsbD j) :=
    hclear ▸ clearWritten_getLsbD s.irqPend v hj
  refine ⟨?_, ?_, ?_, ?_⟩
  · rw [finishCycle_irqPend, hbit 0 (by decide)]
    simp
  · rw [finishCycle_irqPend, hbit 1 (by decide)]
    simp
  · rw [finishCycle_irqPend, hbit 2 (by decide)]
    simp
  · rw [finishCycle_irqPend, hbit 3 (by decide)]
    simp

/-! ### The error bits of an access -/

/-- An access that only answers or records one error (R261). -/
theorem Responded.error {x y : State} (h : Responded x y) :
    (y.busErr = true ∧ ∃ k < 10, y.err = x.err ||| BitVec.twoPow 10 k ∧ y.irqPend = x.irqPend ||| 0x8#4) ∨
    (y.busErr = false ∧ ∀ k, y.err.getLsbD k = true → x.err.getLsbD k = true) := by
  obtain ⟨d, rfl⟩ | ⟨c, d, rfl⟩ := h
  · exact .inr ⟨rfl, fun _ hk => hk⟩
  · exact .inl ⟨rfl, errBit c, by cases c <;> decide, rfl, rfl⟩

theorem clearWritten_le {n : Nat} (x : BitVec n) (v : Word) (k : Nat) (h : (clearWritten x v).getLsbD k = true) :
    x.getLsbD k = true := by
  rw [clearWritten, BitVec.getLsbD_and, Bool.and_eq_true] at h
  exact h.1

/-- Settles O51: an access answers or records one error, and only the host's access does. -/
theorem atMostOneErrorPerAccess : Obligations.AtMostOneErrorPerAccess := by
  refine ⟨fun acc s t hacc => ?_, fun a s t hrun => ?_⟩
  · obtain ⟨u, hu, heff⟩ := hostAccess_effect acc s
    obtain rfl := next_unique hacc hu
    revert heff
    generalize performedRow acc = row
    intro heff
    cases heff with
    | respond hy => exact hy.error
    | storeRaw _ hy | storeFloat _ hy => exact hy.error
    | clearErr v d => exact .inr ⟨rfl, clearWritten_le s.err v⟩
    | _ => exact .inr ⟨rfl, fun _ hk => hk⟩
  · obtain rfl := eq_of_runCycle_quiet rfl rfl hrun
    simp [finishCycle, answered]

/-! ### A cycle in which no agent is listened to -/

/-- No stage but the external ones listens to an agent (R185). -/
theorem stageStep_agents {c : CfgStage} (hc : isExternal c = false) (a b : AgentIn) (s : State) :
    stageStep c a s = stageStep c b s := by
  cases c with
  | install | pins | rate | zero => exact absurd hc (by decide)
  | _ => rfl

/-- With no transfer in flight, steps 2 and 3 of the cycle do nothing. -/
theorem transferAndRegister_idle (a : AgentIn) {s : State} (hr : s.rdBusy = false) (hw : s.wrBusy = false) :
    transferAndRegister a s = registerEvents 0#4 s := by
  rw [transferAndRegister, transferEvents_idle a hr hw, transferStep_idle a hr hw]

/-- Settles O54: no transfer and no external stage, so no agent is listened to, in each of the three kinds of cycle. -/
theorem idleAgentInputsIgnored : Obligations.IdleAgentInputsIgnored := by
  intro h a b s hr hw hstage
  have hext : isExternal s.cfgStage = false := by rwa [← isExternal_iff, Bool.not_eq_true] at hstage
  have hbody : cycleBody h.access a s = cycleBody h.access b s := by
    cases h.access with
    | none =>
      rw [cycleBody_quiet, cycleBody_quiet, transferAndRegister_idle a (s := idleBus s) hr hw,
        transferAndRegister_idle b (s := idleBus s) hr hw, stageStep_agents hext a b]
    | some acc =>
      cases hwrite : acc.write
      · obtain ⟨⟨u, hu, hresp⟩, -⟩ := hostAccess_read hwrite s
        have hur : u.rdBusy = false := by rw [hresp.frame]; exact hr
        have huw : u.wrBusy = false := by rw [hresp.frame]; exact hw
        rw [cycleBody_read a s hwrite, cycleBody_read b s hwrite, hu, andThen_next, andThen_next,
          transferAndRegister_idle a hur huw, transferAndRegister_idle b hur huw, stageStep_agents hext a b]
      · simp only [cycleBody_write _ s hwrite, transferStep_idle _ hr hw, stageStep_agents hext a b]
  simp only [runCycle, hbody]

end Sys2Proof.Machine
end

section
/-! Proofs about a cycle with a transfer in flight (spec/44_block_io.md sections 1 to 3 and 6): the transfer's step, and what the host
can do to a transfer in the same cycle. -/

namespace Sys2Proof.Machine

/-! ### What the host can do to the transfers -/

/-- The registers of the transfers are the same in `x` and `u`. -/
structure SameTransfer (x u : State) : Prop where
  rdBusy : u.rdBusy = x.rdBusy
  rdStat : u.rdStat = x.rdStat
  rptr : u.rptr = x.rptr
  wrBusy : u.wrBusy = x.wrBusy
  wrStat : u.wrStat = x.wrStat
  wptr : u.wptr = x.wptr
  tmr : u.tmr = x.tmr

theorem Responded.sameTransfer {x y : State} (h : Responded x y) : SameTransfer x y := by
  obtain ⟨d, rfl⟩ | ⟨c, d, rfl⟩ := h
  · exact ⟨rfl, rfl, rfl, rfl, rfl, rfl, rfl⟩
  · exact ⟨rfl, rfl, rfl, rfl, rfl, rfl, rfl⟩

/-- Outside UNINIT the host leaves the transfers, or starts one by an accepted command. -/
theorem Effect.transfer_cases {x u : State} {row : Option Instr} (h : Effect x row u) (hlife : x.life ≠ .uninit) :
    SameTransfer x u ∨ (Accepted row x ∧ row = some .readBlock ∧ ∃ d, u = startRead (answered d x)) ∨
      (Accepted row x ∧ row = some .writeBlock ∧ ∃ d, u = startWrite (answered d x)) := by
  cases h with
  | respond hy => exact .inl hy.sameTransfer
  | storeRaw _ hy | storeFloat _ hy =>
    have hsame := hy.sameTransfer
    exact .inl ⟨hsame.rdBusy, hsame.rdStat, hsame.rptr, hsame.wrBusy, hsame.wrStat, hsame.wptr, hsame.tmr⟩
  | config d ha => exact absurd ha.2 hlife
  | readBlock d ha => exact .inr (.inl ⟨ha, rfl, d, rfl⟩)
  | writeBlock d ha => exact .inr (.inr ⟨ha, rfl, d, rfl⟩)
  | _ => exact .inl ⟨rfl, rfl, rfl, rfl, rfl, rfl, rfl⟩

/-- With a command in flight the host leaves the transfers. -/
theorem Effect.sameTransfer {x u : State} {row : Option Instr} (h : Effect x row u) (hlife : x.life ≠ .uninit)
    (hbusy : row = some .readBlock ∨ row = some .writeBlock → ¬ Idle x) : SameTransfer x u := by
  obtain hsame | ⟨ha, rfl, -⟩ | ⟨ha, rfl, -⟩ := h.transfer_cases hlife
  · exact hsame
  · exact absurd ha.1 (hbusy (.inl rfl))
  · exact absurd ha.1 (hbusy (.inr rfl))

/-- A READ_BLOCK in a state that accepts it is accepted. -/
theorem Effect.startRead {x u : State} (h : Effect x (some .readBlock) u) (ha : Accepted (some .readBlock) x) :
    ∃ d, u = startRead (answered d x) := by
  cases h with
  | respond _ hnot => exact absurd ha hnot
  | readBlock d => exact ⟨d, rfl⟩

/-- A WRITE_BLOCK in a state that accepts it is accepted. -/
theorem Effect.startWrite {x u : State} (h : Effect x (some .writeBlock) u) (ha : Accepted (some .writeBlock) x) :
    ∃ d, u = startWrite (answered d x) := by
  cases h with
  | respond _ hnot => exact absurd ha hnot
  | writeBlock d => exact ⟨d, rfl⟩

/-- The host clears an IRQ_PEND bit of a command by a write of IRQ_PEND only. -/
theorem Effect.irqPend {x u : State} {row : Option Instr} (h : Effect x row u)
    (hno : ∀ v, row ≠ some (.wrIrqPend v)) {j : Nat} (hj : j < 3) :
    u.irqPend.getLsbD j = x.irqPend.getLsbD j := by
  have hresp {y : State} (hy : Responded x y) : y.irqPend.getLsbD j = x.irqPend.getLsbD j := by
    obtain ⟨d, rfl⟩ | ⟨c, d, rfl⟩ := hy
    · rfl
    · have hbit : (0x8#4).getLsbD j = false := by interval_cases j <;> rfl
      simp only [recorded, BitVec.getLsbD_or, hbit, Bool.or_false]
  cases h with
  | respond hy => exact hresp hy
  | storeRaw _ hy | storeFloat _ hy => exact (hresp hy :)
  | clearIrq v d => exact absurd rfl (hno v)
  | _ => rfl

/-! ### A cycle outside a CONFIG -/

/-- Outside a CONFIG the access is followed by the registered events only. -/
theorem finishCycle_idle {s : State} (a : AgentIn) (u : State) (hstage : s.cfgStage = .idle) :
    finishCycle a s u = closeCycle s (registerEvents (transferEvents s (transferStep a s)) u) := by
  rw [finishCycle, hstage, stageStep_idle]

/-- The IRQ_PEND bits of the commands, where the host does not clear them. -/
theorem finishCycle_irqPend_command {a : AgentIn} {s u : State} {row : Option Instr} (hstage : s.cfgStage = .idle)
    (h : Effect (transferStep a s) row u) (hno : ∀ v, row ≠ some (.wrIrqPend v)) {j : Nat} (hj : j < 3) :
    (finishCycle a s u).irqPend.getLsbD j =
      (s.irqPend.getLsbD j || (decide (j = 1) && (s.rdBusy && !(transferStep a s).rdBusy)) ||
        (decide (j = 2) && (s.wrBusy && !(transferStep a s).wrBusy))) := by
  rw [finishCycle_irqPend, h.irqPend hno hj, transferStep_irqPend]
  simp [hstage]

/-! ### The transfer's step of a read and of a write, register by register -/

/-- What the step of a read makes of the registers that it always writes or leaves. -/
theorem transferStep_read_registers (a : AgentIn) {s : State} (hs : Inv s) (hr : s.rdBusy = true) :
    (transferStep a s).rbuf = nextRbuf a s ∧ (transferStep a s).rptr = nextRptr a s ∧
      (transferStep a s).wrBusy = false := by
  obtain ⟨-, hw, -, -⟩ := hs.read_in_flight hr
  obtain ⟨-, h⟩ | ⟨-, -, h⟩ | ⟨-, -, h⟩ := transferStep_read_cases a hs hr
  all_goals rw [h]; exact ⟨rfl, rfl, hw⟩

/-- What the step of a write makes of the registers that it always writes or leaves. -/
theorem transferStep_write_registers (a : AgentIn) {s : State} (hs : Inv s) (hw : s.wrBusy = true) :
    (transferStep a s).wptr = nextWptr a s ∧ (transferStep a s).rdBusy = false := by
  obtain ⟨-, hr, -, -⟩ := hs.write_in_flight hw
  obtain ⟨-, h⟩ | ⟨-, -, h⟩ | ⟨-, -, h⟩ := transferStep_write_cases a hs hw
  all_goals rw [h]; exact ⟨rfl, hr⟩

/-- A pointer below N does not overflow. -/
theorem pointer_succ_toNat {p : Word} {n : BitVec 15} (h : p.toNat < n.toNat) : (p + 1#32).toNat = p.toNat + 1 := by
  rw [BitVec.toNat_add, BitVec.toNat_ofNat]
  omega

/-- Settles O32: the handshake stores the word and moves the pointer, and the host can only restart a read that has ended. -/
theorem rxWordStoredAtReadPointer : Obligations.RxWordStoredAtReadPointer := by
  intro h a s t hs hr hrst hrun
  obtain ⟨hc, -, hstage, hlife⟩ := hs.read_in_flight hr
  have hbelow := hs.pointerBelowEnd.1 hr
  obtain ⟨hrbuf, hrptr, hw⟩ := transferStep_read_registers a hs hr
  have hlife' : (transferStep a s).life ≠ .uninit := by rwa [transferStep_life]
  obtain ⟨u, rfl, heff⟩ := effect_of_runCycle hrst hrun
  rw [finishCycle_idle a u hstage]
  have hu : u.rbuf = nextRbuf a s := heff.rbuf.trans hrbuf
  simp only [closeCycle_rbuf, closeCycle_rptr, closeCycle_rdBusy, registerEvents_rbuf, registerEvents_rptr,
    registerEvents_rdBusy, hu]
  refine ⟨fun hv => ?_, fun hv => by simp [nextRbuf, hv], fun hcmd => ?_, fun hcmd hend => ?_⟩
  · simp only [nextRbuf, hv, if_true]
    exact ⟨readWord_writeWord_self _ _ _ hs.buffersCanonical.1,
      fun j hj => readWord_writeWord_other _ _ (wordAddr_disjoint hj)⟩
  · have hptr : u.rptr = nextRptr a s := by
      obtain hsame | ⟨ha, hrow, -⟩ | ⟨-, -, d, rfl⟩ := heff.transfer_cases hlife'
      · exact hsame.rptr.trans hrptr
      · rw [hrow] at ha
        obtain hne | hbusy := hcmd
        · exact absurd (presentedCommand_eq_some_iff.mpr hrow) hne
        · exact absurd (ha.1.2.1.symm.trans hbusy) (by decide)
      · exact hrptr
    rw [hptr]
    exact ⟨fun hv => by simp only [nextRptr, hv, if_true, pointer_succ_toNat hbelow], fun hv => by simp [nextRptr, hv]⟩
  · have hidle : Idle (transferStep a s) := ⟨(transferStep_cfgBusy a s).trans hc, hend, hw⟩
    rw [presentedCommand_eq_some_iff.mp hcmd] at heff
    obtain ⟨d, rfl⟩ := heff.startRead ⟨hidle, hlife'⟩
    exact ⟨rfl, rfl⟩

/-- The host stores in WBUF only by an access in the offsets of its windows. -/
theorem Effect.wbuf_of_offsets {h : BusIn} {x u : State} (heff : Effect x (presentedRow h) u)
    (hout : ∀ acc, h.access = some acc →
      acc.write = false ∨ acc.addr.toNat < 0x30000 ∨ 0x50000 ≤ acc.addr.toNat) : u.wbuf = x.wbuf := by
  have hnone {i : Nat} {v : Word} {acc : Access} (hacc : h.access = some acc)
      (hdec : decodeAccess acc = .ok (.wrWbuf i v) ∨ decodeAccess acc = .ok (.wrWbufF i v)) : False := by
    obtain ⟨hwrite, hlo, hhi⟩ := wbuf_offset_of_decodeAccess hdec
    obtain h | h | h := hout acc hacc
    · exact absurd (hwrite.symm.trans h) (by decide)
    · omega
    · omega
  obtain heq | ⟨i, v, -, ⟨hrow, -⟩ | ⟨hrow, -⟩⟩ := heff.wbuf
  · exact heq
  · obtain ⟨acc, hacc, hdec⟩ := access_of_presentedRow hrow fun c => commandInstr_ne_wrWbuf c i v
    exact (hnone hacc (.inl hdec)).elim
  · obtain ⟨acc, hacc, hdec⟩ := access_of_presentedRow hrow fun c => commandInstr_ne_wrWbufF c i v
    exact (hnone hacc (.inr hdec)).elim

/-- Settles O33: the port shows the word at the pointer, the handshake moves the pointer, and the host can only restart a write
that has ended. -/
theorem txWordSentFromWritePointer : Obligations.TxWordSentFromWritePointer := by
  intro h a s t hs hw hrst hrun
  obtain ⟨hc, -, hstage, hlife⟩ := hs.write_in_flight hw
  have hbelow := hs.pointerBelowEnd.2 hw
  obtain ⟨hwptr, hr⟩ := transferStep_write_registers a hs hw
  have hlife' : (transferStep a s).life ≠ .uninit := by rwa [transferStep_life]
  obtain ⟨u, rfl, heff⟩ := effect_of_runCycle hrst hrun
  rw [finishCycle_idle a u hstage]
  simp only [closeCycle_out, closeCycle_wbuf, closeCycle_wptr, closeCycle_wrBusy, registerEvents_wbuf,
    registerEvents_wptr, registerEvents_wrBusy]
  refine ⟨⟨hw, ?_⟩, ⟨transferStep_wbuf a s, fun hout => ?_⟩, fun hcmd => ?_, fun hcmd hend => ?_⟩
  · simp only [outputs, hw, if_true]
    rfl
  · exact (heff.wbuf_of_offsets hout).trans (transferStep_wbuf a s)
  · have hptr : u.wptr = nextWptr a s := by
      obtain hsame | ⟨-, -, d, rfl⟩ | ⟨ha, hrow, -⟩ := heff.transfer_cases hlife'
      · exact hsame.wptr.trans hwptr
      · exact hwptr
      · rw [hrow] at ha
        obtain hne | hbusy := hcmd
        · exact absurd (presentedCommand_eq_some_iff.mpr hrow) hne
        · exact absurd (ha.1.2.2.symm.trans hbusy) (by decide)
    rw [hptr]
    exact ⟨fun hv => by simp only [nextWptr, hv, if_true, pointer_succ_toNat hbelow], fun hv => by simp [nextWptr, hv]⟩
  · have hidle : Idle (transferStep a s) := ⟨(transferStep_cfgBusy a s).trans hc, hr, hend⟩
    rw [presentedCommand_eq_some_iff.mp hcmd] at heff
    obtain ⟨d, rfl⟩ := heff.startWrite ⟨hidle, hlife'⟩
    exact ⟨rfl, rfl⟩

end Sys2Proof.Machine
end

section
/-! Proofs that a transfer ends or counts in each of its cycles (spec/44_block_io.md R229, R230, R234 and R246). -/

namespace Sys2Proof.Machine

/-! ### The end of a transfer, in its registers -/

theorem finalRdStat_bits : ∀ complete perErr,
    (finalRdStat complete perErr).getLsbD 0 = true ∧ ((finalRdStat complete perErr).getLsbD 1 = true ↔ complete = false) := by decide

theorem finalWrStat_bits : ∀ complete moved perErr,
    (finalWrStat complete moved perErr).getLsbD 0 = true ∧
      ((finalWrStat complete moved perErr).getLsbD 1 = true ↔ complete = false) := by decide

theorem runningStat_done (perErr : Bool) :
    (runningStat 5 perErr).getLsbD 0 = false ∧ (runningStat 6 perErr).getLsbD 0 = false := by
  cases perErr <;> decide

/-- The state of a transfer's registers after its step: ended with DONE and, short of N words, TIMEOUT, or one cycle further. -/
structure EndsOrCounts (s x : State) (busy : Bool) (ptr : Word) (done timeout : Bool) : Prop where
  ends_iff : busy = false ↔ ptr.toNat = s.nActive.toNat ∨ s.params.timeout ≤ s.tmr.toNat + 1
  ended : busy = false → x.tmr = 0#32 ∧ done = true ∧ (timeout = true ↔ ptr.toNat ≠ s.nActive.toNat)
  counts : busy = true → x.tmr.toNat = s.tmr.toNat + 1 ∧ x.tmr.toNat < s.params.timeout ∧ done = false

theorem transferStep_read_endsOrCounts (a : AgentIn) {s : State} (hs : Inv s) (hr : s.rdBusy = true) :
    EndsOrCounts s (transferStep a s) (transferStep a s).rdBusy (transferStep a s).rptr
      ((transferStep a s).rdStat.getLsbD 0) ((transferStep a s).rdStat.getLsbD 1) := by
  have htmr := hs.tmr_succ (hs.timerBounded.1 (by simp [hr]))
  obtain ⟨hptr, h⟩ | ⟨hptr, ht, h⟩ | ⟨hptr, ht, h⟩ := transferStep_read_cases a hs hr
  all_goals rw [h]
  · refine ⟨by simp [hptr], fun _ => ⟨rfl, (finalRdStat_bits true _).1, ?_⟩, nofun⟩
    exact (finalRdStat_bits true _).2.trans (by simp [hptr])
  · refine ⟨by simp [ht], fun _ => ⟨rfl, (finalRdStat_bits false _).1, ?_⟩, nofun⟩
    exact (finalRdStat_bits false _).2.trans (by simp [hptr.ne])
  · exact ⟨by simp [hr]; omega, by simp [hr], fun _ => ⟨htmr, htmr ▸ ht, (runningStat_done _).1⟩⟩

theorem transferStep_write_endsOrCounts (a : AgentIn) {s : State} (hs : Inv s) (hw : s.wrBusy = true) :
    EndsOrCounts s (transferStep a s) (transferStep a s).wrBusy (transferStep a s).wptr
      ((transferStep a s).wrStat.getLsbD 0) ((transferStep a s).wrStat.getLsbD 1) := by
  have htmr := hs.tmr_succ (hs.timerBounded.1 (by simp [hw]))
  obtain ⟨hptr, h⟩ | ⟨hptr, ht, h⟩ | ⟨hptr, ht, h⟩ := transferStep_write_cases a hs hw
  all_goals rw [h]
  · refine ⟨by simp [hptr], fun _ => ⟨rfl, (finalWrStat_bits true true _).1, ?_⟩, nofun⟩
    exact (finalWrStat_bits true true _).2.trans (by simp [hptr])
  · refine ⟨by simp [ht], fun _ => ⟨rfl, (finalWrStat_bits false _ _).1, ?_⟩, nofun⟩
    exact (finalWrStat_bits false _ _).2.trans (by simp [hptr.ne])
  · exact ⟨by simp [hw]; omega, by simp [hw], fun _ => ⟨htmr, htmr ▸ ht, (runningStat_done _).2⟩⟩

/-! ### The interrupt bits of a cycle with a transfer -/

theorem commandInstr_ne_wrIrqPend (c : Command) (v : Word) : commandInstr c ≠ .wrIrqPend v := by
  cases c <;> exact nofun

theorem transferEvents_read {s : State} (x : State) (hr : s.rdBusy = true) (hw : s.wrBusy = false) :
    transferEvents s x = if x.rdBusy then 0#4 else 0x2#4 := by
  simp only [transferEvents, hr, hw, Bool.false_and, Bool.true_and]
  cases x.rdBusy <;> rfl

theorem transferEvents_write {s : State} (x : State) (hr : s.rdBusy = false) (hw : s.wrBusy = true) :
    transferEvents s x = if x.wrBusy then 0#4 else 0x4#4 := by
  simp only [transferEvents, hr, hw, Bool.false_and, Bool.true_and]
  cases x.wrBusy <;> rfl

/-- A cycle outside a CONFIG and without an access changes IRQ_PEND by the events of its transfer. -/
theorem irqPend_of_runCycle_quiet {h : BusIn} {a : AgentIn} {s t : State} (hstage : s.cfgStage = .idle)
    (hrst : h.rstN = true) (hacc : h.access = none) (hrun : runCycle h a s = .next t) :
    t.irqPend = s.irqPend ||| transferEvents s (transferStep a s) := by
  rw [eq_of_runCycle_quiet hrst hacc hrun, finishCycle_idle _ _ hstage]
  simp [answered]

/-! ### The cycle of a transfer, as the host sees it -/

/-- Settles O35: the host leaves the transfer that its step ends or lets count, and the end raises its interrupt bit. -/
theorem transferEndsByCompletionOrTimeout : Obligations.TransferEndsByCompletionOrTimeout := by
  intro h a s t hs hrst hcmd hrun
  obtain ⟨u, rfl, heff⟩ := effect_of_runCycle hrst hrun
  have hno (hpres : ∀ v, presentedInstr h ≠ some (.wrIrqPend v)) (v : Word) :
      presentedRow h ≠ some (.wrIrqPend v) := fun hrow =>
    hpres v (presentedInstr_of_presentedRow hrow fun c => commandInstr_ne_wrIrqPend c v)
  have hsame (hlife : s.life ≠ .uninit) : SameTransfer (transferStep a s) u :=
    heff.sameTransfer (by rwa [transferStep_life]) fun hrow =>
      hcmd (hrow.imp presentedCommand_eq_some_iff.mpr presentedCommand_eq_some_iff.mpr)
  refine ⟨fun hr => ?_, fun hw => ?_⟩
  · obtain ⟨-, hw, hstage, hlife⟩ := hs.read_in_flight hr
    obtain ⟨hends, hended, hcounts⟩ := transferStep_read_endsOrCounts a hs hr
    obtain ⟨hb, hstat, hp, -, -, -, htmr⟩ := hsame hlife
    have hirq := finishCycle_irqPend a s u
    have hcmdIrq (hpres : ∀ v, presentedInstr h ≠ some (.wrIrqPend v)) (k : Nat) (hk : k < 3) :=
      finishCycle_irqPend_command hstage heff (hno hpres) hk
    have hquiet := fun hacc => irqPend_of_runCycle_quiet hstage hrst hacc hrun
    rw [finishCycle_idle a u hstage] at hirq hcmdIrq hquiet ⊢
    simp only [closeCycle_rdBusy, closeCycle_rptr, closeCycle_tmr, closeCycle_rdStat, registerEvents_rdBusy,
      registerEvents_rptr, registerEvents_tmr, registerEvents_rdStat, hb, hp, htmr, hstat]
    refine ⟨hends, fun hend => ?_, fun hgo => ⟨(hcounts hgo).1, (hcounts hgo).2.2⟩, fun hpres k hk => ?_, fun hacc => ?_⟩
    · obtain ⟨hzero, hdone, htimeout⟩ := hended hend
      exact ⟨hzero, by rw [hirq]; simp [hr, hend], hdone, htimeout⟩
    · rw [hcmdIrq hpres k hk]
      simp [hr, hw]
    · rw [hquiet hacc, transferEvents_read _ hr hw]
      split <;> simp
  · obtain ⟨-, hr, hstage, hlife⟩ := hs.write_in_flight hw
    obtain ⟨hends, hended, hcounts⟩ := transferStep_write_endsOrCounts a hs hw
    obtain ⟨-, -, -, hb, hstat, hp, htmr⟩ := hsame hlife
    have hirq := finishCycle_irqPend a s u
    have hcmdIrq (hpres : ∀ v, presentedInstr h ≠ some (.wrIrqPend v)) (k : Nat) (hk : k < 3) :=
      finishCycle_irqPend_command hstage heff (hno hpres) hk
    have hquiet := fun hacc => irqPend_of_runCycle_quiet hstage hrst hacc hrun
    rw [finishCycle_idle a u hstage] at hirq hcmdIrq hquiet ⊢
    simp only [closeCycle_wrBusy, closeCycle_wptr, closeCycle_tmr, closeCycle_wrStat, registerEvents_wrBusy,
      registerEvents_wptr, registerEvents_tmr, registerEvents_wrStat, hb, hp, htmr, hstat]
    refine ⟨hends, fun hend => ?_, fun hgo => ⟨(hcounts hgo).1, (hcounts hgo).2.2⟩, fun hpres k hk => ?_, fun hacc => ?_⟩
    · obtain ⟨hzero, hdone, htimeout⟩ := hended hend
      exact ⟨hzero, by rw [hirq]; simp [hw, hend], hdone, htimeout⟩
    · rw [hcmdIrq hpres k hk]
      simp [hr, hw]
    · rw [hquiet hacc, transferEvents_write _ hr hw]
      split <;> simp

/-- Settles O36: an end raises the bit whatever the host wrote, and a transfer that counts is left by the host. -/
theorem transferInFlightEndsOrCounts : Obligations.TransferInFlightEndsOrCounts := by
  intro h a s t hs hrst hrun
  obtain ⟨u, rfl, heff⟩ := effect_of_runCycle hrst hrun
  refine ⟨fun hr => ?_, fun hw => ?_⟩
  · obtain ⟨-, -, hstage, hlife⟩ := hs.read_in_flight hr
    cases hb : (transferStep a s).rdBusy
    · exact .inl ⟨by rw [finishCycle_irqPend]; simp [hr, hb], rfl⟩
    · have hsame := heff.sameTransfer (by rwa [transferStep_life]) fun _ hidle =>
        absurd (hidle.2.1.symm.trans hb) (by decide)
      obtain ⟨htmr, hlt, -⟩ := (transferStep_read_endsOrCounts a hs hr).counts hb
      right
      rw [finishCycle_idle a u hstage]
      simpa [hsame.rdBusy, hsame.tmr, hb, hlt] using htmr
  · obtain ⟨-, -, hstage, hlife⟩ := hs.write_in_flight hw
    cases hb : (transferStep a s).wrBusy
    · exact .inl ⟨by rw [finishCycle_irqPend]; simp [hw, hb], rfl⟩
    · have hsame := heff.sameTransfer (by rwa [transferStep_life]) fun _ hidle =>
        absurd (hidle.2.2.symm.trans hb) (by decide)
      obtain ⟨htmr, hlt, -⟩ := (transferStep_write_endsOrCounts a hs hw).counts hb
      right
      rw [finishCycle_idle a u hstage]
      simpa [hsame.wrBusy, hsame.tmr, hb, hlt] using htmr

end Sys2Proof.Machine
end

section
/-! Proofs about the stages of a CONFIG (spec/42_setup.md R182 to R196): no host access reaches what the stages use, so that a cycle
of a CONFIG is its stage's step. -/

namespace Sys2Proof.Machine

/-! ### A cycle of a CONFIG -/

/-- `s` with what the host can change during a CONFIG taken from `f`: the bus response, ERR, the interrupt registers and the
converter inputs. -/
def withHost (f s : State) : State :=
  { s with
    busRdata := f.busRdata, busErr := f.busErr, err := f.err, irqPend := f.irqPend, irqEn := f.irqEn
    cvtFixIn := f.cvtFixIn, cvtFltIn := f.cvtFltIn }

/-- During a CONFIG the host changes nothing that the stages use: the configuration is locked, no command is accepted and no
word of a buffer is in range (R21, R162, R243). -/
theorem Effect.eq_withHost {x u : State} {row : Option Instr} (h : Effect x row u) (hc : x.cfgBusy = true)
    (hn : x.nActive = 0#15) : u = withHost u x := by
  have hlocked (hu : unlocked x = true) : False := by simp [unlocked_iff, hc] at hu
  have hrange {i : Nat} (hi : i < x.nActive.toNat) : False := by simp [hn] at hi
  have hbusy (hidle : x.cfgBusy = false) : False := absurd (hc.symm.trans hidle) (by decide)
  cases h with
  | respond hy => rw [hy.frame]; rfl
  | cfgRate _ _ hu | cfgChan _ _ hu | cfgBlock _ _ hu | cfgBus _ _ hu | cfgMode _ _ hu => exact (hlocked hu).elim
  | storeRaw hi | storeFloat hi => exact (hrange hi).elim
  | enable p d ha => exact (hbusy ha).elim
  | config d ha | readBlock d ha | writeBlock d ha => exact (hbusy ha.1.1).elim
  | clearErr | clearIrq | irqEn | fixIn | fltIn => rfl

/-- A cycle of a CONFIG is the step of its stage, whatever the host does. -/
theorem stage_of_runCycle {h : BusIn} {a : AgentIn} {s t : State} (hs : Inv s) (hstage : s.cfgStage ≠ .idle)
    (hrst : h.rstN = true) (hrun : runCycle h a s = .next t) :
    ∃ f, t = closeCycle s (stageStep s.cfgStage a (withHost f s)) := by
  have hc := hs.cfgBusy_of_stage hstage
  obtain ⟨hr, hw, -, hn⟩ := hs.config_in_flight hc
  obtain ⟨u, rfl, heff⟩ := effect_of_runCycle hrst hrun
  rw [transferStep_idle a hr hw] at heff
  have hu := heff.eq_withHost hc hn
  refine ⟨registerEvents (transferEvents s (transferStep a s)) u, ?_⟩
  rw [finishCycle, hu]
  rfl

/-! ### The stages that end in one cycle -/

/-- VALIDATE clamps the bus instance (R182). -/
theorem stageValidate_cfgBus (s : State) :
    (stageValidate s).cfgBus.toNat = min s.cfgBus.toNat (s.params.numBus - 1) := by
  have hlt := s.cfgBus.isLt
  simp only [stageValidate]
  split
  next hclamp =>
    rw [BitVec.toNat_ofNat, Nat.mod_eq_of_lt (by omega)]
    omega
  next hfits => omega

/-- Settles O38: VALIDATE's step, on a state that the host left. -/
theorem validateClampsAndChecks : Obligations.ValidateClampsAndChecks := by
  intro h a s t hs hstage hrst hrun
  obtain ⟨f, rfl⟩ := stage_of_runCycle hs (by simp [hstage]) hrst hrun
  have hc := hs.cfgBusy_of_stage (by simp [hstage])
  have herr (k : Nat) := stageValidate_cfgErr (withHost f s) k
  simp only [hstage, stageStep, closeCycle_cfgErr, closeCycle_cfgBus, closeCycle_cfgStage, closeCycle_cfgBusy,
    closeCycle_cfgSum]
  refine ⟨?_, ?_, ?_, fun k hk => ?_, rfl, hc, rfl⟩
  · exact stageValidate_cfgBus (withHost f s)
  · rw [herr]
    simp [withHost]
  · rw [herr]
    simp [withHost]
  · rw [herr]
    simp [withHost, show k ≠ 0 by omega, show k ≠ 1 by omega]

/-- Settles O39: POWER_DOWN's step and MCLK's, on a state that the host left. -/
theorem powerDownAndMclkStages : Obligations.PowerDownAndMclkStages := by
  intro h a s t hs hrst hrun
  refine ⟨fun hstage => ?_, fun hstage => ?_⟩
  · obtain ⟨f, rfl⟩ := stage_of_runCycle hs (by simp [hstage]) hrst hrun
    rw [hstage]
    exact ⟨rfl, rfl, rfl, rfl⟩
  · obtain ⟨f, rfl⟩ := stage_of_runCycle hs (by simp [hstage]) hrst hrun
    simp only [hstage, stageStep, stageMclk, closeCycle_cfgErr, closeCycle_cfgStage, closeCycle_tmr, closeCycle_req,
      closeCycle_mclkHz, withHost, true_and]
    refine ⟨fun hlegal => ?_, fun hillegal => ?_⟩
    · rw [if_neg (by omega)]
      refine ⟨?_, rfl⟩
      rw [BitVec.toNat_ofNat]
      exact Nat.mod_eq_of_lt (by omega)
    · rw [if_pos (by omega)]
      exact ⟨rfl, rfl⟩

/-- Settles O42: FINISH's step, with the block that VALIDATE found legal. -/
theorem finishStageResult : Obligations.FinishStageResult := by
  intro h a s t hs hstage hrst hrun
  obtain ⟨f, rfl⟩ := stage_of_runCycle hs (by simp [hstage]) hrst hrun
  obtain ⟨-, -, hlife, -⟩ := hs.config_in_flight (hs.cfgBusy_of_stage (by simp [hstage]))
  have hirq : (closeCycle s (stageStep s.cfgStage a (withHost f s))).irqPend.getLsbD 0 = true := by
    rw [closeCycle_irqPend, stageStep_irqPend, if_pos hstage, setBit_getLsbD _ (by decide)]
    exact Bool.or_true _
  refine ⟨by rw [hstage]; rfl, by rw [hstage]; rfl, by rw [hstage]; rfl, hirq, ?_, fun herr => ?_, fun herr => ?_⟩
  all_goals simp only [hstage, stageStep, stageFinish, closeCycle_cfgErr, closeCycle_life, closeCycle_nActive, withHost]
  · split <;> rfl
  · obtain ⟨-, -, -, hn⟩ := hs.finished_block hstage herr
    rw [if_pos herr]
    exact ⟨rfl, hn, hs.configResult.1 herr⟩
  · rw [if_neg herr]
    exact ⟨hlife, rfl⟩

/-! ### The stages that wait -/

/-- The cycle of an external stage with the CFG_ERR bit of the mask `m` (R185). -/
theorem externalStage_cycle {a : AgentIn} {s y : State} {e : Nat} {m : BitVec 8} {next : CfgStage} (hs : Inv s)
    (hext : isExternal s.cfgStage = true) (hm : BitVec.twoPow 8 e = m) (hy : ∃ f, y = withHost f s) :
    (a.perAck = true →
      (stageExternal e next a y).cfgSum = s.cfgSum + a.perStatus ∧ (stageExternal e next a y).cfgStage = next ∧
      (stageExternal e next a y).tmr = 0#32 ∧
      (a.perStatus = 0#32 → (stageExternal e next a y).cfgErr = s.cfgErr) ∧
      (a.perStatus ≠ 0#32 → (stageExternal e next a y).cfgErr = s.cfgErr ||| m)) ∧
    (a.perAck = false → s.params.timeout ≤ s.tmr.toNat + 1 →
      (stageExternal e next a y).cfgSum = s.cfgSum ∧ (stageExternal e next a y).cfgStage = next ∧
      (stageExternal e next a y).tmr = 0#32 ∧ (stageExternal e next a y).cfgErr = s.cfgErr ||| m ||| 0x80#8) ∧
    (a.perAck = false → s.tmr.toNat + 1 < s.params.timeout →
      (stageExternal e next a y).cfgSum = s.cfgSum ∧ (stageExternal e next a y).cfgStage = s.cfgStage ∧
      (stageExternal e next a y).tmr.toNat = s.tmr.toNat + 1 ∧ (stageExternal e next a y).cfgErr = s.cfgErr) := by
  obtain ⟨f, rfl⟩ := hy
  have htmr := hs.tmr_succ (hs.timerBounded.2.1 hext)
  have hset (x : BitVec 8) : setBit x e = x ||| m := by rw [setBit, hm]
  obtain ⟨hack, h⟩ | ⟨hack, ht, h⟩ | ⟨hack, ht, h⟩ := stageExternal_cases e next a (withHost f s)
  all_goals rw [h]
  · refine ⟨fun _ => ⟨rfl, rfl, rfl, fun hstat => ?_, fun hstat => ?_⟩, by simp [hack], by simp [hack]⟩
    · simp [hstat, withHost]
    · simp [hstat, withHost, hset]
  · simp only [withHost, htmr] at ht
    refine ⟨by simp [hack], fun _ _ => ⟨rfl, rfl, rfl, ?_⟩, fun _ hlt => by omega⟩
    rw [hset]
    rfl
  · simp only [withHost, htmr] at ht
    exact ⟨by simp [hack], fun _ hle => by omega, fun _ _ => ⟨rfl, rfl, htmr, rfl⟩⟩

/-- Settles O40: the four external stages differ in their CFG_ERR bit and successor only. -/
theorem externalStageHandshake : Obligations.ExternalStageHandshake := by
  intro h a s t hs hrst hrun p hp hstage
  fin_cases hp
  all_goals
    obtain ⟨f, ht⟩ := stage_of_runCycle hs (by rw [hstage]; exact nofun) hrst hrun
    rw [hstage] at ht
    subst ht
    exact externalStage_cycle hs (by rw [hstage]; rfl) rfl ⟨f, rfl⟩

/-- SETTLE's count does not overflow. -/
theorem Inv.settle_succ {s : State} (hs : Inv s) (hstage : s.cfgStage = .settle) :
    (s.tmr + 1#32).toNat = s.tmr.toNat + 1 := by
  have hlt := hs.timerBounded.2.2 hstage
  obtain ⟨-, -, -, -, hsettle, -⟩ := hs.legal
  rw [BitVec.toNat_add, BitVec.toNat_ofNat]
  omega

/-- Settles O41. -/
theorem clockSettleAllocStages : Obligations.ClockSettleAllocStages := by
  intro h a s t hs hrst hrun
  refine ⟨fun hstage => ?_, fun hstage => ?_, fun hstage => ?_⟩
  · obtain ⟨f, rfl⟩ := stage_of_runCycle hs (by simp [hstage]) hrst hrun
    rw [hstage]
    exact ⟨rfl, rfl, fun hzero => if_pos hzero, fun hpos => if_neg hpos⟩
  · obtain ⟨f, rfl⟩ := stage_of_runCycle hs (by simp [hstage]) hrst hrun
    have htmr := hs.settle_succ hstage
    simp only [hstage, stageStep, stageSettle, closeCycle_cfgStage, closeCycle_tmr, withHost, htmr]
    refine ⟨fun hle => ?_, fun hlt => ?_⟩
    · rw [if_pos hle]
      exact ⟨rfl, rfl⟩
    · rw [if_neg (by omega)]
      exact ⟨rfl, htmr⟩
  · obtain ⟨f, rfl⟩ := stage_of_runCycle hs (by simp [hstage]) hrst hrun
    rw [hstage]
    exact ⟨rfl, fun j => ⟨readWord_zeroed _, readWord_zeroed _⟩⟩

end Sys2Proof.Machine
end

section
/-! Proofs about what changes STATE (spec/41_control.md R166) and the configuration (spec/10_state.md R21, R31): the host's access on
the one hand, the stages on the other. -/

namespace Sys2Proof.Machine

/-! ### STATE -/

/-- ENABLE moves STATE outside UNINIT and CONFIGURED; a refused one finds UNINIT (R210, R213). -/
theorem Effect.life_enable {x u : State} {p : Bool} (h : Effect x (some (.enable p)) u) (hx : Inv x) :
    u.life = if x.life = .running ∨ x.life = .poweredOff then (if p then .running else .poweredOff) else x.life := by
  cases h with
  | respond hy hnot =>
    have hlife := hx.configInUninit (by simpa [Accepted] using hnot)
    rw [hy.frame]
    simp [hlife]
  | enable d =>
    change lifeAfterEnable p x.life = _
    cases x.life <;> cases p <;> rfl

/-- A transfer command moves STATE from CONFIGURED where it is accepted (R166). -/
theorem lifeAfterTransferCommand_eq (x : State) (hidle : Idle x) :
    lifeAfterTransferCommand x =
      if Idle x ∧ x.life = .configured then (if x.pwr then .running else .poweredOff) else x.life :=
  if_congr (and_iff_right hidle).symm rfl rfl

theorem Effect.life_transfer {x u : State} {row : Option Instr} (h : Effect x row u)
    (hrow : row = some .readBlock ∨ row = some .writeBlock) :
    u.life = if Idle x ∧ x.life = .configured then (if x.pwr then .running else .poweredOff) else x.life := by
  have hrefused (hnot : ¬ (Idle x ∧ x.life ≠ .uninit)) : ¬ (Idle x ∧ x.life = .configured) := fun hacc =>
    hnot ⟨hacc.1, by simp [hacc.2]⟩
  obtain rfl | rfl := hrow
  · cases h with
    | respond hy hnot => rw [hy.frame, if_neg (hrefused hnot)]
    | readBlock d ha => exact lifeAfterTransferCommand_eq x ha.1
  · cases h with
    | respond hy hnot => rw [hy.frame, if_neg (hrefused hnot)]
    | writeBlock d ha => exact lifeAfterTransferCommand_eq x ha.1

/-- No other access moves STATE (R166). -/
theorem Effect.life_other {x u : State} {row : Option Instr} (h : Effect x row u)
    (henable : ∀ p, row ≠ some (.enable p)) (hread : row ≠ some .readBlock) (hwrite : row ≠ some .writeBlock) :
    u.life = x.life := by
  cases h with
  | respond hy => rw [hy.frame]
  | storeRaw _ hy | storeFloat _ hy => rw [hy.frame]
  | enable p d => exact absurd rfl (henable p)
  | readBlock d => exact absurd rfl hread
  | writeBlock d => exact absurd rfl hwrite
  | _ => rfl

/-- STATE after the command that the host presents, on the state after the transfer's step. -/
theorem Effect.life {h : BusIn} {x u : State} (heff : Effect x (presentedRow h) u) (hx : Inv x) :
    u.life =
      match presentedCommand h with
      | some (.enable p) =>
        if x.life = .running ∨ x.life = .poweredOff then (if p then .running else .poweredOff) else x.life
      | some .readBlock | some .writeBlock =>
        if Idle x ∧ x.life = .configured then (if x.pwr then .running else .poweredOff) else x.life
      | some .nop | some .config | none => x.life := by
  cases hcmd : presentedCommand h with
  | none =>
    have hne (c : Command) : presentedRow h ≠ some (commandInstr c) := fun hrow => by
      simp [presentedCommand_eq_some_iff.mpr hrow] at hcmd
    exact heff.life_other (fun p => hne (.enable p)) (hne .readBlock) (hne .writeBlock)
  | some c =>
    have hrow := presentedCommand_eq_some_iff.mp hcmd
    rw [hrow] at heff
    cases c with
    | enable p => exact Effect.life_enable heff hx
    | readBlock => exact heff.life_transfer (.inl rfl)
    | writeBlock => exact heff.life_transfer (.inr rfl)
    | nop | config => exact heff.life_other nofun nofun nofun

/-- Settles O49: reset, FINISH, else the command presented. -/
theorem lifecycleTransitions : Obligations.LifecycleTransitions := by
  intro h a s t hs hrun
  cases hrst : h.rstN with
  | false =>
    rw [runCycle_reset a s hrst] at hrun
    obtain rfl := Host.Outcome.next.inj hrun
    rfl
  | true =>
    rw [if_neg (by decide)]
    split
    next hstage =>
      obtain ⟨-, -, -, -, -, hok, hfail⟩ := finishStageResult h a s t hs hstage hrst hrun
      split
      next herr => exact (hok herr).1
      next herr => exact (hfail herr).1
    next hstage =>
      obtain ⟨u, rfl, heff⟩ := effect_of_runCycle hrst hrun
      have hlife : (finishCycle a s u).life = u.life := (stageStep_keeps s.cfgStage a _).life hstage
      have hu := heff.life (hs.transferStep a)
      simp only [transferStep_life, transferStep_pwr] at hu
      exact hlife.trans hu

/-! ### The configuration -/

/-- What the host can make of the settings: nothing, or what its own write of one of them says; the configuration only while
unlocked, the power line only outside a CONFIG (R21, R31, R162). -/
structure HostWrites (row : Option Instr) (x u : State) : Prop where
  cfgRate : u.cfgRate = x.cfgRate ∨ unlocked x = true ∧ row = some (.wrCfgRate u.cfgRate) := by exact .inl rfl
  cfgChan : u.cfgChan = x.cfgChan ∨
    unlocked x = true ∧ ∃ v, row = some (.wrCfgChan v) ∧ u.cfgChan = v.setWidth 8 := by exact .inl rfl
  cfgBlock : u.cfgBlock = x.cfgBlock ∨
    unlocked x = true ∧ ∃ v, row = some (.wrCfgBlock v) ∧ u.cfgBlock = v.setWidth 16 := by exact .inl rfl
  cfgBus : u.cfgBus = x.cfgBus ∨
    unlocked x = true ∧ ∃ v, row = some (.wrCfgBus v) ∧ u.cfgBus = v.setWidth 8 := by exact .inl rfl
  cfgMaster : u.cfgMaster = x.cfgMaster ∨
    unlocked x = true ∧ ∃ v, row = some (.wrCfgMode v) ∧ u.cfgMaster = v.getLsbD 0 := by exact .inl rfl
  irqEn : u.irqEn = x.irqEn ∨ ∃ v, row = some (.wrIrqEn v) ∧ u.irqEn = v.setWidth 4 := by exact .inl rfl
  cvtFixIn : u.cvtFixIn = x.cvtFixIn ∨ row = some (.wrCvtFixIn u.cvtFixIn) := by exact .inl rfl
  cvtFltIn : u.cvtFltIn = x.cvtFltIn ∨ row = some (.wrCvtFltIn u.cvtFltIn) := by exact .inl rfl
  pwr : u.pwr = x.pwr ∨ x.cfgBusy = false ∧ row = some (.enable u.pwr) := by exact .inl rfl
  mclkHz : u.mclkHz = x.mclkHz := by rfl
  mclkEn : u.mclkEn = x.mclkEn := by rfl
  nActive : u.nActive = x.nActive := by rfl

theorem Effect.hostWrites {x u : State} {row : Option Instr} (h : Effect x row u) : HostWrites row x u := by
  cases h with
  | respond hy => rw [hy.frame]; exact {}
  | storeRaw _ hy | storeFloat _ hy => rw [hy.frame]; exact {}
  | cfgRate v d hu => exact { cfgRate := .inr ⟨hu, rfl⟩ }
  | cfgChan v d hu => exact { cfgChan := .inr ⟨hu, v, rfl, rfl⟩ }
  | cfgBlock v d hu => exact { cfgBlock := .inr ⟨hu, v, rfl, rfl⟩ }
  | cfgBus v d hu => exact { cfgBus := .inr ⟨hu, v, rfl, rfl⟩ }
  | cfgMode v d hu => exact { cfgMaster := .inr ⟨hu, v, rfl, rfl⟩ }
  | irqEn v d => exact { irqEn := .inr ⟨v, rfl, rfl⟩ }
  | fixIn v d => exact { cvtFixIn := .inr rfl }
  | fltIn v d => exact { cvtFltIn := .inr rfl }
  | enable p d ha => exact { pwr := .inr ⟨ha, rfl⟩ }
  | _ => exact {}

/-- The transfer's step has no part in the settings. -/
theorem HostWrites.of_transferStep {a : AgentIn} {s u : State} {row : Option Instr}
    (h : HostWrites row (transferStep a s) u) : HostWrites row s u := by
  rw [transferStep_frame] at h
  exact ⟨h.cfgRate, h.cfgChan, h.cfgBlock, h.cfgBus, h.cfgMaster, h.irqEn, h.cvtFixIn, h.cvtFltIn, h.pwr, h.mclkHz,
    h.mclkEn, h.nActive⟩

/-- The configuration is locked outside UNINIT and during a CONFIG (R21). -/
theorem HostWrites.locked {x u : State} {row : Option Instr} (h : HostWrites row x u)
    (hlocked : x.life ≠ .uninit ∨ x.cfgBusy = true) :
    u.cfgRate = x.cfgRate ∧ u.cfgChan = x.cfgChan ∧ u.cfgBlock = x.cfgBlock ∧ u.cfgMaster = x.cfgMaster ∧
      u.cfgBus = x.cfgBus := by
  have hno (hu : unlocked x = true) : False := by
    obtain ⟨hlife, hidle⟩ := (unlocked_iff x).mp hu
    exact hlocked.elim (fun hne => hne hlife) fun hbusy => absurd (hbusy.symm.trans hidle) (by decide)
  exact ⟨h.cfgRate.resolve_right fun hw => hno hw.1, h.cfgChan.resolve_right fun hw => hno hw.1,
    h.cfgBlock.resolve_right fun hw => hno hw.1, h.cfgMaster.resolve_right fun hw => hno hw.1,
    h.cfgBus.resolve_right fun hw => hno hw.1⟩

/-- A row that is no command's is the instruction presented. -/
theorem presentedInstr_of_plainRow {h : BusIn} {i : Instr} (hrow : presentedRow h = some i)
    (hi : ∀ c, commandInstr c ≠ i := by intro c; cases c <;> exact nofun) : presentedInstr h = some i :=
  presentedInstr_of_presentedRow hrow hi

@[simp] theorem finishCycle_cfgRate (a : AgentIn) (s u : State) : (finishCycle a s u).cfgRate = u.cfgRate := by
  simp [finishCycle]
@[simp] theorem finishCycle_cfgChan (a : AgentIn) (s u : State) : (finishCycle a s u).cfgChan = u.cfgChan := by
  simp [finishCycle]
@[simp] theorem finishCycle_cfgBlock (a : AgentIn) (s u : State) : (finishCycle a s u).cfgBlock = u.cfgBlock := by
  simp [finishCycle]
@[simp] theorem finishCycle_cfgMaster (a : AgentIn) (s u : State) : (finishCycle a s u).cfgMaster = u.cfgMaster := by
  simp [finishCycle]
@[simp] theorem finishCycle_irqEn (a : AgentIn) (s u : State) : (finishCycle a s u).irqEn = u.irqEn := by
  simp [finishCycle]
@[simp] theorem finishCycle_cvtFixIn (a : AgentIn) (s u : State) : (finishCycle a s u).cvtFixIn = u.cvtFixIn := by
  simp [finishCycle]
@[simp] theorem finishCycle_cvtFltIn (a : AgentIn) (s u : State) : (finishCycle a s u).cvtFltIn = u.cvtFltIn := by
  simp [finishCycle]

/-- The registers that one stage sets are after the cycle of another what the access left. -/
theorem finishCycle_keeps (a : AgentIn) (s u : State) :
    StageKeeps s.cfgStage (registerEvents (transferEvents s (transferStep a s)) u) (finishCycle a s u) := by
  obtain ⟨hbus, hpwr, hhz, hen, hr, hw, hn, hlife, hirq⟩ :=
    stageStep_keeps s.cfgStage a (registerEvents (transferEvents s (transferStep a s)) u)
  exact ⟨hbus, hpwr, hhz, hen, hr, hw, hn, hlife, hirq⟩

/-- During a CONFIG no transfer starts, and without an access only the end of the CONFIG is signalled. -/
theorem config_cycle {h : BusIn} {a : AgentIn} {s t : State} (hs : Inv s) (hrst : h.rstN = true)
    (hrun : runCycle h a s = .next t) (hc : s.cfgBusy = true) :
    t.rdBusy = false ∧ t.wrBusy = false ∧
      (h.access = none → t.err = s.err ∧ ∀ k, k ≠ 0 → t.irqPend.getLsbD k = s.irqPend.getLsbD k) := by
  obtain ⟨hr, hw, -, -⟩ := hs.config_in_flight hc
  obtain ⟨f, ht⟩ := stage_of_runCycle hs (hs.stageMatchesBusy.mpr hc) hrst hrun
  refine ⟨?_, ?_, fun hacc => ?_⟩
  · rw [ht, closeCycle_rdBusy, stageStep_rdBusy]
    exact hr
  · rw [ht, closeCycle_wrBusy, stageStep_wrBusy]
    exact hw
  · rw [eq_of_runCycle_quiet hrst hacc hrun, transferStep_idle a hr hw]
    refine ⟨by simp [finishCycle, answered], fun k hk => ?_⟩
    rw [finishCycle_irqPend]
    simp [hr, hw, hk, answered]

/-- Settles O50: the host's writes of a cycle, and what its stage leaves. -/
theorem configurationImmutableAfterSetup : Obligations.ConfigurationImmutableAfterSetup := by
  intro h a s t hs hrst hrun
  obtain ⟨u, rfl, heff⟩ := effect_of_runCycle hrst hrun
  have hw := heff.hostWrites.of_transferStep
  have hk := finishCycle_keeps a s u
  simp only [finishCycle_cfgRate, finishCycle_cfgChan, finishCycle_cfgBlock, finishCycle_cfgMaster, finishCycle_irqEn,
    finishCycle_cvtFixIn, finishCycle_cvtFltIn]
  refine ⟨fun hlocked => ?_, fun hstage => (hk.nActive hstage).trans hw.nActive, ⟨?_, ?_, ?_, fun hstage => ?_, ?_, ?_, ?_, ?_⟩,
    fun hstage => ?_, fun hstage => (hk.mclkHz hstage).trans hw.mclkHz, fun hstage => (hk.mclkEn hstage).trans hw.mclkEn,
    config_cycle hs hrst hrun⟩
  · obtain ⟨hrate, hchan, hblock, hmaster, hbus⟩ := hw.locked hlocked
    exact ⟨hrate, hchan, hblock, hmaster, fun hstage => (hk.cfgBus hstage).trans hbus⟩
  · exact hw.cfgRate.imp_right fun hrow => presentedInstr_of_plainRow hrow.2
  · exact hw.cfgChan.imp_right fun ⟨_, v, hrow, hv⟩ => ⟨v, presentedInstr_of_plainRow hrow, hv⟩
  · exact hw.cfgBlock.imp_right fun ⟨_, v, hrow, hv⟩ => ⟨v, presentedInstr_of_plainRow hrow, hv⟩
  · rw [hk.cfgBus hstage]
    exact hw.cfgBus.imp_right fun ⟨_, v, hrow, hv⟩ => ⟨v, presentedInstr_of_plainRow hrow, hv⟩
  · exact hw.cfgMaster.imp_right fun ⟨_, v, hrow, hv⟩ => ⟨v, presentedInstr_of_plainRow hrow, hv⟩
  · exact hw.irqEn.imp_right fun ⟨v, hrow, hv⟩ => ⟨v, presentedInstr_of_plainRow hrow, hv⟩
  · exact hw.cvtFixIn.imp_right fun hrow => presentedInstr_of_plainRow hrow
  · exact hw.cvtFltIn.imp_right fun hrow => presentedInstr_of_plainRow hrow
  · rw [hk.pwr hstage]
    exact hw.pwr.imp_right fun ⟨hbusy, hrow⟩ => ⟨hbusy, presentedCommand_eq_some_iff.mpr hrow⟩

end Sys2Proof.Machine
end

section
/-! The proof that no command stays in flight (spec/44_block_io.md R247): a bound on the cycles that the command in flight can still
take falls in every cycle without an access. -/

namespace Sys2Proof.Machine

/-- A bound on the cycles that the command in flight still takes, whatever the agents do: of the stage or the transfer that waits,
what TMR has left, and of every later stage all of its cycles (R185, R192, R230, R234). -/
def remaining (s : State) : Nat :=
  let wait := s.params.timeout - s.tmr.toNat
  match s.cfgStage with
  | .idle => if s.rdBusy || s.wrBusy then wait else 0
  | .validate => 6 + 4 * s.params.timeout + s.params.settle
  | .powerDown => 5 + 4 * s.params.timeout + s.params.settle
  | .mclk => 4 + 4 * s.params.timeout + s.params.settle
  | .install => 3 + 3 * s.params.timeout + s.params.settle + wait
  | .pins => 3 + 2 * s.params.timeout + s.params.settle + wait
  | .rate => 3 + s.params.timeout + s.params.settle + wait
  | .zero => 3 + s.params.settle + wait
  | .clkRoute => 3 + s.params.settle
  | .settle => 2 + (s.params.settle - s.tmr.toNat)
  | .alloc => 2
  | .finish => 1

/-- The bound at any time of a CONFIG is the one at its start, and of a transfer the one of its first cycle (R247). -/
theorem remaining_le (s : State) (hs : Inv s) :
    remaining s ≤ if s.cfgBusy then 6 + 4 * s.params.timeout + s.params.settle else s.params.timeout := by
  cases hc : s.cfgBusy with
  | false =>
    simp only [remaining, hs.stage_idle hc, Bool.false_eq_true, if_false]
    split <;> omega
  | true =>
    have hstage := hs.stageMatchesBusy.mpr hc
    simp only [remaining, if_true]
    split
    next h => exact absurd h hstage
    all_goals omega

/-- Where nothing remains no command is in flight. -/
theorem Inv.idle_of_remaining {s : State} (hs : Inv s) (h : remaining s = 0) : Idle s := by
  cases hstage : s.cfgStage with
  | idle =>
    have hc : s.cfgBusy = false := by
      by_contra hbusy
      exact hs.stageMatchesBusy.mpr (by simpa using hbusy) hstage
    cases hbusy : s.rdBusy || s.wrBusy with
    | false => exact ⟨hc, by simpa using hbusy⟩
    | true =>
      have hlt := hs.timerBounded.1 hbusy
      simp only [remaining, hstage, hbusy, if_true] at h
      omega
  | _ =>
    simp only [remaining, hstage] at h
    omega

/-! ### A stage's step -/

/-- An external stage goes on to the next one with TMR = 0, or waits one cycle less. -/
theorem stageExternal_leaves_or_waits {s : State} (hs : Inv s) (e : Nat) (next : CfgStage) (a : AgentIn)
    (hext : isExternal s.cfgStage = true) :
    (stageExternal e next a s).params = s.params ∧
      (((stageExternal e next a s).cfgStage = next ∧ (stageExternal e next a s).tmr = 0#32) ∨
        ((stageExternal e next a s).cfgStage = s.cfgStage ∧
          (stageExternal e next a s).tmr.toNat = s.tmr.toNat + 1)) := by
  have htmr := hs.tmr_succ (hs.timerBounded.2.1 hext)
  obtain ⟨-, h⟩ | ⟨-, -, h⟩ | ⟨-, -, h⟩ := stageExternal_cases e next a s
  all_goals rw [h]
  · exact ⟨rfl, .inl ⟨rfl, rfl⟩⟩
  · exact ⟨rfl, .inl ⟨rfl, rfl⟩⟩
  · exact ⟨rfl, .inr ⟨rfl, htmr⟩⟩

/-- An external stage that waits has one cycle less of its own to wait. -/
theorem remaining_waits {s t : State} (hext : isExternal s.cfgStage = true) (hlt : s.tmr.toNat < s.params.timeout)
    (hparams : t.params = s.params) (hstage : t.cfgStage = s.cfgStage) (htmr : t.tmr.toNat = s.tmr.toNat + 1) :
    remaining t < remaining s := by
  simp only [remaining, hstage, hparams, htmr]
  cases hc : s.cfgStage with
  | install | pins | rate | zero => dsimp only; omega
  | _ => simp [hc, isExternal] at hext

theorem remaining_stageExternal {s : State} (hs : Inv s) {e : Nat} {next : CfgStage} (a : AgentIn)
    (hext : isExternal s.cfgStage = true)
    (hnext : ∀ t : State, t.params = s.params → t.cfgStage = next → t.tmr = 0#32 → remaining t < remaining s) :
    remaining (stageExternal e next a s) < remaining s := by
  obtain ⟨hparams, ⟨hstage, htmr⟩ | ⟨hstage, htmr⟩⟩ := stageExternal_leaves_or_waits hs e next a hext
  · exact hnext _ hparams hstage htmr
  · exact remaining_waits hext (hs.timerBounded.2.1 hext) hparams hstage htmr

/-- Every cycle of a CONFIG brings its end nearer. -/
theorem remaining_stageStep {s : State} (hs : Inv s) (a : AgentIn) (hstage : s.cfgStage ≠ .idle) :
    remaining (stageStep s.cfgStage a s) < remaining s := by
  obtain ⟨hr, hw, -, -⟩ := hs.config_in_flight (hs.cfgBusy_of_stage hstage)
  obtain ⟨-, hexternal, hsettling⟩ := hs.timerBounded
  cases hc : s.cfgStage with
  | idle => exact absurd hc hstage
  | validate | powerDown | alloc => simp [stageStep, stageValidate, remaining, hc]
  | mclk =>
    have hout : (stageMclk s).cfgStage = .install ∧ (stageMclk s).tmr = 0#32 := ⟨rfl, rfl⟩
    have hparams : (stageStep .mclk a s).params = s.params := stageStep_params ..
    simp only [stageStep] at hparams ⊢
    simp only [remaining, hc, hout, hparams, BitVec.toNat_zero]
    omega
  | install | pins | rate | zero =>
    have hext : isExternal s.cfgStage = true := by rw [hc]; rfl
    have hlt := hexternal hext
    refine remaining_stageExternal hs a hext fun t hparams hnext htmr => ?_
    simp only [remaining, hc, hparams, hnext, htmr, BitVec.toNat_ofNat]
    omega
  | clkRoute =>
    by_cases hzero : s.params.settle = 0
    · simp [stageStep, stageClkRoute, remaining, hc, hzero]
    · simp [stageStep, stageClkRoute, remaining, hc, hzero]
  | settle =>
    have htmr := hs.settle_succ hc
    have hlt := hsettling hc
    simp only [stageStep, stageSettle]
    split
    · simp only [remaining, hc]
      omega
    · simp only [remaining, hc, htmr]
      omega
  | finish =>
    have hout : (stageFinish s).cfgStage = .idle ∧ (stageFinish s).rdBusy = false ∧ (stageFinish s).wrBusy = false :=
      ⟨rfl, (stageStep_rdBusy .finish a s).trans hr, (stageStep_wrBusy .finish a s).trans hw⟩
    simp [stageStep, remaining, hc, hout]

/-! ### The transfer's step -/

/-- Every cycle of a transfer ends it or brings its timeout nearer. -/
theorem EndsOrCounts.remaining {s x : State} {busy : Bool} {ptr : Word} {done timeout : Bool}
    (h : EndsOrCounts s x busy ptr done timeout) (hlt : s.tmr.toNat < s.params.timeout) :
    (if busy then s.params.timeout - x.tmr.toNat else 0) < s.params.timeout - s.tmr.toNat := by
  cases hb : busy with
  | false => simpa using hlt
  | true =>
    have htmr := (h.counts hb).1
    simp only [if_true]
    omega

theorem remaining_transferStep {s : State} (hs : Inv s) (a : AgentIn) (hstage : s.cfgStage = .idle)
    (hbusy : (s.rdBusy || s.wrBusy) = true) : remaining (transferStep a s) < remaining s := by
  have hlt := hs.timerBounded.1 hbusy
  simp only [remaining, transferStep_cfgStage, transferStep_params, hstage, hbusy, if_true]
  cases hr : s.rdBusy with
  | true =>
    rw [(transferStep_read_registers a hs hr).2.2, Bool.or_false]
    exact (transferStep_read_endsOrCounts a hs hr).remaining hlt
  | false =>
    have hw : s.wrBusy = true := by simpa [hr] using hbusy
    rw [(transferStep_write_registers a hs hw).2, Bool.false_or]
    exact (transferStep_write_endsOrCounts a hs hw).remaining hlt

/-! ### A cycle without an access -/

theorem remaining_closeCycle (s u : State) : remaining (closeCycle s u) = remaining u := rfl

theorem remaining_withHost (f s : State) : remaining (withHost f s) = remaining s := rfl

/-- The events and the bus response of a cycle without an access leave what remains. -/
theorem remaining_registerEvents_answered (ev : BitVec 4) (d : Word) (u : State) :
    remaining (registerEvents ev (answered d u)) = remaining u := rfl

/-- Every cycle without an access brings the end of the command in flight nearer. -/
theorem remaining_runCycle {a : AgentIn} {s t : State} (hs : Inv s) (hrun : runCycle quietBus a s = .next t) :
    remaining t ≤ remaining s - 1 := by
  by_cases hstage : s.cfgStage = .idle
  · rw [eq_of_runCycle_quiet rfl rfl hrun, finishCycle_idle _ _ hstage, remaining_closeCycle,
      remaining_registerEvents_answered]
    cases hbusy : s.rdBusy || s.wrBusy with
    | true => exact Nat.le_sub_one_of_lt (remaining_transferStep hs a hstage hbusy)
    | false =>
      obtain ⟨hr, hw⟩ : s.rdBusy = false ∧ s.wrBusy = false := by simpa using hbusy
      simp [transferStep_idle a hr hw, remaining, hstage, hbusy]
  · obtain ⟨f, ht⟩ := stage_of_runCycle hs hstage rfl hrun
    have hf : Inv (withHost f s) := hs.frame rfl
    rw [ht, remaining_closeCycle, ← remaining_withHost f s]
    exact Nat.le_sub_one_of_lt (remaining_stageStep hf a hstage)

/-- After as many cycles as remain no command is in flight. -/
theorem idle_after_remaining (inputs : List AgentIn) {s : State} (hs : Inv s) (h : remaining s ≤ inputs.length) :
    ∃ t, quietRun inputs s = .next t ∧ Idle t := by
  induction inputs generalizing s with
  | nil => exact ⟨s, rfl, hs.idle_of_remaining (Nat.le_zero.mp h)⟩
  | cons a rest ih =>
    obtain ⟨t, ht⟩ := runCycle_next quietBus a s
    have hle := remaining_runCycle hs ht
    rw [List.length_cons] at h
    simp only [quietRun, ht]
    exact ih (hs.runCycle ht) (by omega)

/-- Settles O48. -/
theorem blockNeverHangs : Obligations.BlockNeverHangs := fun s inputs hs hlong =>
  idle_after_remaining inputs hs ((remaining_le s hs).trans hlong)

end Sys2Proof.Machine
end
